-- ==== Sys2Proof/Word.lean ====
section
/-! DEFINITION. Word: the word types of the block (spec/00_scope.md R6, spec/10_state.md). -/

namespace Sys2Proof

/-- `BYTE`: every datum on the line and in the buffers (R6). -/
abbrev Byte := BitVec 8

/-- The 16-bit registers: the three timeouts and `ERR_INFO`. -/
abbrev Half := BitVec 16

/-- The 17-bit lengths and offsets (`OP_LEN`, `OP_OFF`, `RES_LEN`, `OLEN`, `ILEN`). -/
abbrev Len := BitVec 17

/-- The 32-bit counters and times, and the widest value of the host's register port. -/
abbrev Word := BitVec 32

end Sys2Proof
end

