-- ==== Sys2Proof/Config.lean ====
section
/-! DEFINITION. Config: the parameters and constants of the block and its free values
(spec/00_scope.md R6, spec/93_implementation_defined.md). -/

namespace Sys2Proof

/-- The six length classes of the RTU reader (R110). -/
inductive LenClass where
  | count8 | count16 | fixed6 | fixed3 | fixed8 | unknown
  deriving DecidableEq, Repr

/-- The open parameters of R6. They stand in `State` as plain data that no step changes, so a statement
about every state is a statement about every value of them (log entry 1). `fcTable` lists the known
function codes; every other code has class `unknown` (R110, R111). -/
structure Params where
  bufSize       : Nat
  flushMax      : Nat
  flushWindowMs : Nat
  fcTable       : List (Byte × LenClass)
  deriving DecidableEq, Repr

namespace Config

/-- `POLL_MS`, a constant of 10 milliseconds (R6, D7). -/
def pollMs : Word := 10

/-- The first value of each half of a CRC16 computation, `CRC_INIT = 0xFFFF` (R6, R137). -/
def crcStart : Byte := 0xFF

/-- `READ_TIMEOUT_RESET` (R6, R43). -/
def readTimeoutReset : Half := 500

/-- `ECHO_TIMEOUT_RESET` (R6, R44). -/
def echoTimeoutReset : Half := 1000

/-- The default population of `FC_TABLE` (R112). -/
def defaultFcTable : List (Byte × LenClass) :=
  [(0x01, .count8), (0x02, .count8), (0x03, .count8), (0x04, .count8), (0x05, .fixed6), (0x06, .fixed6),
   (0x07, .fixed3), (0x08, .fixed3), (0x0B, .fixed6), (0x0C, .count8), (0x0F, .fixed6), (0x10, .fixed6),
   (0x11, .count8), (0x14, .count8), (0x15, .count8), (0x16, .fixed8), (0x17, .count8), (0x18, .count16)]

/-- The parameter values of spec/95_test_vectors.md, which `State.reset` holds (DESIGN CHOICE, log entry 1). -/
def vectorParams : Params :=
  { bufSize := 256, flushMax := 256, flushWindowMs := 100, fcTable := defaultFcTable }

/-- FREE VALUE. The `n`-th value the spec leaves open: an unwritten buffer byte (U1), `CFG_UNIT_ID` before the
host's first write (U2), a result the host reads while the block is busy (U3). It has no body on
purpose: nothing can be proved about it (log entry 4). -/
opaque freeValue : Nat → Word

end Config

end Sys2Proof
end

