-- ==== Sys2Proof/Syntax.lean ====
section
/-! DEFINITION. Syntax: the rows of spec/opcode_table.json, one constructor each
(spec/30_encoding.md R91, R92, R112, R120, R122). -/

namespace Sys2Proof

/-- The three formats of spec/opcode_table.json, each a partition of one byte's values: the place a word is read
from (R120; log entry 9). -/
inductive Format where
  /-- A byte the host writes to `CMD` (R120, R122). -/
  | cmd8
  /-- The function-code byte the RTU reader takes in `S_R_FC` (R112). -/
  | rtuFc
  /-- A character an ASCII reader takes (R91, R92). -/
  | ascChar
  deriving DecidableEq, Repr

/-- One constructor per row of spec/opcode_table.json. A row that stands for several words carries its word;
`Instr.WellFormed` checks the word against the row's mask and match. -/
inductive Instr where
  -- format CMD8: command codes (R120), then the illegal codes (R122)
  | nop
  | lrcInit
  | lrcUpdate
  | lrcRead
  | lrcRange
  | crcInit
  | crcUpdate
  | crcRead
  | crcRange
  | rxAvail
  | rxRead
  | ascRxToken
  | txWrite
  | ascTxWrite
  | rxFlush
  | echoDiscard
  | hexEnc
  | hexDec
  | ascWriteFrame
  | ascReadFrame
  | rtuWriteFrame
  | rtuReadFrame
  | illegal09
  | illegal0A0B (code : Byte)
  | illegal0C0F (code : Byte)
  | illegal19
  | illegal1A1B (code : Byte)
  | illegal1C1F (code : Byte)
  | illegal2427 (code : Byte)
  | illegal282F (code : Byte)
  | illegal303F (code : Byte)
  | illegal407F (code : Byte)
  | illegal80FF (code : Byte)
  -- format RTU_FC: function codes (R112)
  | fc01ReadCoils
  | fc02ReadDiscreteInputs
  | fc03ReadHoldingRegisters
  | fc04ReadInputRegisters
  | fc05WriteSingleCoil
  | fc06WriteSingleRegister
  | fc07ReadExceptionStatus
  | fc08Diagnostics
  | fc0BGetCommEventCounter
  | fc0CGetCommEventLog
  | fc0FWriteMultipleCoils
  | fc10WriteMultipleRegisters
  | fc11ReportSlaveId
  | fc14ReadFileRecord
  | fc15WriteFileRecord
  | fc16MaskWriteRegister
  | fc17ReadWriteMultipleRegisters
  | fc18ReadFifoQueue
  | fcUnknown00
  | fcUnknown09
  | fcUnknown0A
  | fcUnknown0D
  | fcUnknown0E
  | fcUnknown1213 (code : Byte)
  | fcUnknown19
  | fcUnknown1A1B (code : Byte)
  | fcUnknown1C1F (code : Byte)
  | fcUnknown203F (code : Byte)
  | fcUnknown407F (code : Byte)
  | fcUnknown80FF (code : Byte)
  -- format ASC_CHAR: characters (R91, R92)
  | ascStart
  | ascCr
  | ascLf
  | ascHex07 (c : Byte)
  | ascHex89 (c : Byte)
  | ascHexA
  | ascHexBC (c : Byte)
  | ascHexDE (c : Byte)
  | ascHexF
  deriving DecidableEq, Repr

end Sys2Proof
end

