-- ==== Sys2Proof/WellFormed.lean ====
section
/-! DEFINITION. WellFormed: a row's format, mask and match, and the check of the word an instruction carries
(spec/opcode_table.json; spec/30_encoding.md R120, R122). -/

namespace Sys2Proof

/-- A row's key in spec/opcode_table.json: `word AND mask = pattern` in its format (R120). -/
structure RowKey where
  format  : Format
  mask    : Byte
  pattern : Byte
  deriving DecidableEq, Repr

/-- The key of the row an instruction is. -/
def Instr.key : Instr → RowKey
  | .nop => ⟨.cmd8, 0xFF, 0x00⟩
  | .lrcInit => ⟨.cmd8, 0xFF, 0x01⟩
  | .lrcUpdate => ⟨.cmd8, 0xFF, 0x02⟩
  | .lrcRead => ⟨.cmd8, 0xFF, 0x03⟩
  | .lrcRange => ⟨.cmd8, 0xFF, 0x04⟩
  | .crcInit => ⟨.cmd8, 0xFF, 0x05⟩
  | .crcUpdate => ⟨.cmd8, 0xFF, 0x06⟩
  | .crcRead => ⟨.cmd8, 0xFF, 0x07⟩
  | .crcRange => ⟨.cmd8, 0xFF, 0x08⟩
  | .rxAvail => ⟨.cmd8, 0xFF, 0x10⟩
  | .rxRead => ⟨.cmd8, 0xFF, 0x11⟩
  | .ascRxToken => ⟨.cmd8, 0xFF, 0x12⟩
  | .txWrite => ⟨.cmd8, 0xFF, 0x13⟩
  | .ascTxWrite => ⟨.cmd8, 0xFF, 0x14⟩
  | .rxFlush => ⟨.cmd8, 0xFF, 0x15⟩
  | .echoDiscard => ⟨.cmd8, 0xFF, 0x16⟩
  | .hexEnc => ⟨.cmd8, 0xFF, 0x17⟩
  | .hexDec => ⟨.cmd8, 0xFF, 0x18⟩
  | .ascWriteFrame => ⟨.cmd8, 0xFF, 0x20⟩
  | .ascReadFrame => ⟨.cmd8, 0xFF, 0x21⟩
  | .rtuWriteFrame => ⟨.cmd8, 0xFF, 0x22⟩
  | .rtuReadFrame => ⟨.cmd8, 0xFF, 0x23⟩
  | .illegal09 => ⟨.cmd8, 0xFF, 0x09⟩
  | .illegal0A0B _ => ⟨.cmd8, 0xFE, 0x0A⟩
  | .illegal0C0F _ => ⟨.cmd8, 0xFC, 0x0C⟩
  | .illegal19 => ⟨.cmd8, 0xFF, 0x19⟩
  | .illegal1A1B _ => ⟨.cmd8, 0xFE, 0x1A⟩
  | .illegal1C1F _ => ⟨.cmd8, 0xFC, 0x1C⟩
  | .illegal2427 _ => ⟨.cmd8, 0xFC, 0x24⟩
  | .illegal282F _ => ⟨.cmd8, 0xF8, 0x28⟩
  | .illegal303F _ => ⟨.cmd8, 0xF0, 0x30⟩
  | .illegal407F _ => ⟨.cmd8, 0xC0, 0x40⟩
  | .illegal80FF _ => ⟨.cmd8, 0x80, 0x80⟩
  | .fc01ReadCoils => ⟨.rtuFc, 0xFF, 0x01⟩
  | .fc02ReadDiscreteInputs => ⟨.rtuFc, 0xFF, 0x02⟩
  | .fc03ReadHoldingRegisters => ⟨.rtuFc, 0xFF, 0x03⟩
  | .fc04ReadInputRegisters => ⟨.rtuFc, 0xFF, 0x04⟩
  | .fc05WriteSingleCoil => ⟨.rtuFc, 0xFF, 0x05⟩
  | .fc06WriteSingleRegister => ⟨.rtuFc, 0xFF, 0x06⟩
  | .fc07ReadExceptionStatus => ⟨.rtuFc, 0xFF, 0x07⟩
  | .fc08Diagnostics => ⟨.rtuFc, 0xFF, 0x08⟩
  | .fc0BGetCommEventCounter => ⟨.rtuFc, 0xFF, 0x0B⟩
  | .fc0CGetCommEventLog => ⟨.rtuFc, 0xFF, 0x0C⟩
  | .fc0FWriteMultipleCoils => ⟨.rtuFc, 0xFF, 0x0F⟩
  | .fc10WriteMultipleRegisters => ⟨.rtuFc, 0xFF, 0x10⟩
  | .fc11ReportSlaveId => ⟨.rtuFc, 0xFF, 0x11⟩
  | .fc14ReadFileRecord => ⟨.rtuFc, 0xFF, 0x14⟩
  | .fc15WriteFileRecord => ⟨.rtuFc, 0xFF, 0x15⟩
  | .fc16MaskWriteRegister => ⟨.rtuFc, 0xFF, 0x16⟩
  | .fc17ReadWriteMultipleRegisters => ⟨.rtuFc, 0xFF, 0x17⟩
  | .fc18ReadFifoQueue => ⟨.rtuFc, 0xFF, 0x18⟩
  | .fcUnknown00 => ⟨.rtuFc, 0xFF, 0x00⟩
  | .fcUnknown09 => ⟨.rtuFc, 0xFF, 0x09⟩
  | .fcUnknown0A => ⟨.rtuFc, 0xFF, 0x0A⟩
  | .fcUnknown0D => ⟨.rtuFc, 0xFF, 0x0D⟩
  | .fcUnknown0E => ⟨.rtuFc, 0xFF, 0x0E⟩
  | .fcUnknown1213 _ => ⟨.rtuFc, 0xFE, 0x12⟩
  | .fcUnknown19 => ⟨.rtuFc, 0xFF, 0x19⟩
  | .fcUnknown1A1B _ => ⟨.rtuFc, 0xFE, 0x1A⟩
  | .fcUnknown1C1F _ => ⟨.rtuFc, 0xFC, 0x1C⟩
  | .fcUnknown203F _ => ⟨.rtuFc, 0xE0, 0x20⟩
  | .fcUnknown407F _ => ⟨.rtuFc, 0xC0, 0x40⟩
  | .fcUnknown80FF _ => ⟨.rtuFc, 0x80, 0x80⟩
  | .ascStart => ⟨.ascChar, 0xFF, 0x3A⟩
  | .ascCr => ⟨.ascChar, 0xFF, 0x0D⟩
  | .ascLf => ⟨.ascChar, 0xFF, 0x0A⟩
  | .ascHex07 _ => ⟨.ascChar, 0xF8, 0x30⟩
  | .ascHex89 _ => ⟨.ascChar, 0xFE, 0x38⟩
  | .ascHexA => ⟨.ascChar, 0xFF, 0x41⟩
  | .ascHexBC _ => ⟨.ascChar, 0xFE, 0x42⟩
  | .ascHexDE _ => ⟨.ascChar, 0xFE, 0x44⟩
  | .ascHexF => ⟨.ascChar, 0xFF, 0x46⟩

/-- The word an instruction carries, where its row has several words. -/
def Instr.carried : Instr → Option Byte
  | .nop => none
  | .lrcInit => none
  | .lrcUpdate => none
  | .lrcRead => none
  | .lrcRange => none
  | .crcInit => none
  | .crcUpdate => none
  | .crcRead => none
  | .crcRange => none
  | .rxAvail => none
  | .rxRead => none
  | .ascRxToken => none
  | .txWrite => none
  | .ascTxWrite => none
  | .rxFlush => none
  | .echoDiscard => none
  | .hexEnc => none
  | .hexDec => none
  | .ascWriteFrame => none
  | .ascReadFrame => none
  | .rtuWriteFrame => none
  | .rtuReadFrame => none
  | .illegal09 => none
  | .illegal0A0B w => some w
  | .illegal0C0F w => some w
  | .illegal19 => none
  | .illegal1A1B w => some w
  | .illegal1C1F w => some w
  | .illegal2427 w => some w
  | .illegal282F w => some w
  | .illegal303F w => some w
  | .illegal407F w => some w
  | .illegal80FF w => some w
  | .fc01ReadCoils => none
  | .fc02ReadDiscreteInputs => none
  | .fc03ReadHoldingRegisters => none
  | .fc04ReadInputRegisters => none
  | .fc05WriteSingleCoil => none
  | .fc06WriteSingleRegister => none
  | .fc07ReadExceptionStatus => none
  | .fc08Diagnostics => none
  | .fc0BGetCommEventCounter => none
  | .fc0CGetCommEventLog => none
  | .fc0FWriteMultipleCoils => none
  | .fc10WriteMultipleRegisters => none
  | .fc11ReportSlaveId => none
  | .fc14ReadFileRecord => none
  | .fc15WriteFileRecord => none
  | .fc16MaskWriteRegister => none
  | .fc17ReadWriteMultipleRegisters => none
  | .fc18ReadFifoQueue => none
  | .fcUnknown00 => none
  | .fcUnknown09 => none
  | .fcUnknown0A => none
  | .fcUnknown0D => none
  | .fcUnknown0E => none
  | .fcUnknown1213 w => some w
  | .fcUnknown19 => none
  | .fcUnknown1A1B w => some w
  | .fcUnknown1C1F w => some w
  | .fcUnknown203F w => some w
  | .fcUnknown407F w => some w
  | .fcUnknown80FF w => some w
  | .ascStart => none
  | .ascCr => none
  | .ascLf => none
  | .ascHex07 w => some w
  | .ascHex89 w => some w
  | .ascHexA => none
  | .ascHexBC w => some w
  | .ascHexDE w => some w
  | .ascHexF => none

/-- A carried word is one of its row's words. -/
abbrev Instr.WellFormed (i : Instr) : Prop :=
  ∀ w ∈ i.carried, w &&& i.key.mask = i.key.pattern

end Sys2Proof
end

