-- ==== Sys2Proof/Decode.lean ====
section
/-! DEFINITION. Decode: the rows of spec/opcode_table.json as decoding tables, the decoder of each format, and the
encoder (spec/30_encoding.md R91, R92, R112, R120, R122). -/

namespace Sys2Proof

/-- Why bytes do not decode. -/
inductive DecodeReject where
  /-- There is no byte to decode. -/
  | noByte
  /-- The byte is in no row of the format: a character outside R91 and R92. -/
  | noRow (format : Format)
  deriving DecidableEq, Repr

/-- A row as the decoder uses it: the words it matches and the instruction it gives. -/
structure DecodeRow where
  mask    : Byte
  pattern : Byte
  make    : Byte → Instr

/-- The rows of format CMD8 (R120, R122). -/
def commandRows : List DecodeRow :=
  [⟨0xFF, 0x00, fun _ => .nop⟩,
   ⟨0xFF, 0x01, fun _ => .lrcInit⟩,
   ⟨0xFF, 0x02, fun _ => .lrcUpdate⟩,
   ⟨0xFF, 0x03, fun _ => .lrcRead⟩,
   ⟨0xFF, 0x04, fun _ => .lrcRange⟩,
   ⟨0xFF, 0x05, fun _ => .crcInit⟩] ++
  [⟨0xFF, 0x06, fun _ => .crcUpdate⟩,
   ⟨0xFF, 0x07, fun _ => .crcRead⟩,
   ⟨0xFF, 0x08, fun _ => .crcRange⟩,
   ⟨0xFF, 0x10, fun _ => .rxAvail⟩,
   ⟨0xFF, 0x11, fun _ => .rxRead⟩,
   ⟨0xFF, 0x12, fun _ => .ascRxToken⟩] ++
  [⟨0xFF, 0x13, fun _ => .txWrite⟩,
   ⟨0xFF, 0x14, fun _ => .ascTxWrite⟩,
   ⟨0xFF, 0x15, fun _ => .rxFlush⟩,
   ⟨0xFF, 0x16, fun _ => .echoDiscard⟩,
   ⟨0xFF, 0x17, fun _ => .hexEnc⟩,
   ⟨0xFF, 0x18, fun _ => .hexDec⟩] ++
  [⟨0xFF, 0x20, fun _ => .ascWriteFrame⟩,
   ⟨0xFF, 0x21, fun _ => .ascReadFrame⟩,
   ⟨0xFF, 0x22, fun _ => .rtuWriteFrame⟩,
   ⟨0xFF, 0x23, fun _ => .rtuReadFrame⟩,
   ⟨0xFF, 0x09, fun _ => .illegal09⟩,
   ⟨0xFE, 0x0A, .illegal0A0B⟩] ++
  [⟨0xFC, 0x0C, .illegal0C0F⟩,
   ⟨0xFF, 0x19, fun _ => .illegal19⟩,
   ⟨0xFE, 0x1A, .illegal1A1B⟩,
   ⟨0xFC, 0x1C, .illegal1C1F⟩,
   ⟨0xFC, 0x24, .illegal2427⟩,
   ⟨0xF8, 0x28, .illegal282F⟩] ++
  [⟨0xF0, 0x30, .illegal303F⟩,
   ⟨0xC0, 0x40, .illegal407F⟩,
   ⟨0x80, 0x80, .illegal80FF⟩]

/-- The rows of format RTU_FC (R112). -/
def functionCodeRows : List DecodeRow :=
  [⟨0xFF, 0x01, fun _ => .fc01ReadCoils⟩,
   ⟨0xFF, 0x02, fun _ => .fc02ReadDiscreteInputs⟩,
   ⟨0xFF, 0x03, fun _ => .fc03ReadHoldingRegisters⟩,
   ⟨0xFF, 0x04, fun _ => .fc04ReadInputRegisters⟩,
   ⟨0xFF, 0x05, fun _ => .fc05WriteSingleCoil⟩,
   ⟨0xFF, 0x06, fun _ => .fc06WriteSingleRegister⟩] ++
  [⟨0xFF, 0x07, fun _ => .fc07ReadExceptionStatus⟩,
   ⟨0xFF, 0x08, fun _ => .fc08Diagnostics⟩,
   ⟨0xFF, 0x0B, fun _ => .fc0BGetCommEventCounter⟩,
   ⟨0xFF, 0x0C, fun _ => .fc0CGetCommEventLog⟩,
   ⟨0xFF, 0x0F, fun _ => .fc0FWriteMultipleCoils⟩,
   ⟨0xFF, 0x10, fun _ => .fc10WriteMultipleRegisters⟩] ++
  [⟨0xFF, 0x11, fun _ => .fc11ReportSlaveId⟩,
   ⟨0xFF, 0x14, fun _ => .fc14ReadFileRecord⟩,
   ⟨0xFF, 0x15, fun _ => .fc15WriteFileRecord⟩,
   ⟨0xFF, 0x16, fun _ => .fc16MaskWriteRegister⟩,
   ⟨0xFF, 0x17, fun _ => .fc17ReadWriteMultipleRegisters⟩,
   ⟨0xFF, 0x18, fun _ => .fc18ReadFifoQueue⟩] ++
  [⟨0xFF, 0x00, fun _ => .fcUnknown00⟩,
   ⟨0xFF, 0x09, fun _ => .fcUnknown09⟩,
   ⟨0xFF, 0x0A, fun _ => .fcUnknown0A⟩,
   ⟨0xFF, 0x0D, fun _ => .fcUnknown0D⟩,
   ⟨0xFF, 0x0E, fun _ => .fcUnknown0E⟩,
   ⟨0xFE, 0x12, .fcUnknown1213⟩] ++
  [⟨0xFF, 0x19, fun _ => .fcUnknown19⟩,
   ⟨0xFE, 0x1A, .fcUnknown1A1B⟩,
   ⟨0xFC, 0x1C, .fcUnknown1C1F⟩,
   ⟨0xE0, 0x20, .fcUnknown203F⟩,
   ⟨0xC0, 0x40, .fcUnknown407F⟩,
   ⟨0x80, 0x80, .fcUnknown80FF⟩]

/-- The rows of format ASC_CHAR (R91, R92). -/
def characterRows : List DecodeRow :=
  [⟨0xFF, 0x3A, fun _ => .ascStart⟩,
   ⟨0xFF, 0x0D, fun _ => .ascCr⟩,
   ⟨0xFF, 0x0A, fun _ => .ascLf⟩,
   ⟨0xF8, 0x30, .ascHex07⟩,
   ⟨0xFE, 0x38, .ascHex89⟩,
   ⟨0xFF, 0x41, fun _ => .ascHexA⟩] ++
  [⟨0xFE, 0x42, .ascHexBC⟩,
   ⟨0xFE, 0x44, .ascHexDE⟩,
   ⟨0xFF, 0x46, fun _ => .ascHexF⟩]

/-- The rows of a format. -/
def rowsOf : Format → List DecodeRow
  | .cmd8    => commandRows
  | .rtuFc   => functionCodeRows
  | .ascChar => characterRows

/-- The first row of a list that a byte matches. -/
def findRow : List DecodeRow → Byte → Option Instr
  | [], _ => none
  | r :: rs, b => if b &&& r.mask = r.pattern then some (r.make b) else findRow rs b

/-- Decode one byte read at the place of format `f` (R120: a decoder matches the whole byte). -/
def decodeByte (f : Format) (b : Byte) : Except DecodeReject Instr :=
  match findRow (rowsOf f) b with
  | some i => .ok i
  | none   => .error (.noRow f)

/-- Decode the first instruction of a byte sequence, and give back the rest. Every instruction is one byte. -/
def decode (f : Format) : List Byte → Except DecodeReject (Instr × List Byte)
  | [] => .error .noByte
  | b :: rest =>
    match decodeByte f b with
    | .ok i    => .ok (i, rest)
    | .error e => .error e

/-- The word of an instruction (R91, R92, R112, R120, R122). -/
def encodeByte : Instr → Byte
  | .nop => 0x00
  | .lrcInit => 0x01
  | .lrcUpdate => 0x02
  | .lrcRead => 0x03
  | .lrcRange => 0x04
  | .crcInit => 0x05
  | .crcUpdate => 0x06
  | .crcRead => 0x07
  | .crcRange => 0x08
  | .rxAvail => 0x10
  | .rxRead => 0x11
  | .ascRxToken => 0x12
  | .txWrite => 0x13
  | .ascTxWrite => 0x14
  | .rxFlush => 0x15
  | .echoDiscard => 0x16
  | .hexEnc => 0x17
  | .hexDec => 0x18
  | .ascWriteFrame => 0x20
  | .ascReadFrame => 0x21
  | .rtuWriteFrame => 0x22
  | .rtuReadFrame => 0x23
  | .illegal09 => 0x09
  | .illegal0A0B w => w
  | .illegal0C0F w => w
  | .illegal19 => 0x19
  | .illegal1A1B w => w
  | .illegal1C1F w => w
  | .illegal2427 w => w
  | .illegal282F w => w
  | .illegal303F w => w
  | .illegal407F w => w
  | .illegal80FF w => w
  | .fc01ReadCoils => 0x01
  | .fc02ReadDiscreteInputs => 0x02
  | .fc03ReadHoldingRegisters => 0x03
  | .fc04ReadInputRegisters => 0x04
  | .fc05WriteSingleCoil => 0x05
  | .fc06WriteSingleRegister => 0x06
  | .fc07ReadExceptionStatus => 0x07
  | .fc08Diagnostics => 0x08
  | .fc0BGetCommEventCounter => 0x0B
  | .fc0CGetCommEventLog => 0x0C
  | .fc0FWriteMultipleCoils => 0x0F
  | .fc10WriteMultipleRegisters => 0x10
  | .fc11ReportSlaveId => 0x11
  | .fc14ReadFileRecord => 0x14
  | .fc15WriteFileRecord => 0x15
  | .fc16MaskWriteRegister => 0x16
  | .fc17ReadWriteMultipleRegisters => 0x17
  | .fc18ReadFifoQueue => 0x18
  | .fcUnknown00 => 0x00
  | .fcUnknown09 => 0x09
  | .fcUnknown0A => 0x0A
  | .fcUnknown0D => 0x0D
  | .fcUnknown0E => 0x0E
  | .fcUnknown1213 w => w
  | .fcUnknown19 => 0x19
  | .fcUnknown1A1B w => w
  | .fcUnknown1C1F w => w
  | .fcUnknown203F w => w
  | .fcUnknown407F w => w
  | .fcUnknown80FF w => w
  | .ascStart => 0x3A
  | .ascCr => 0x0D
  | .ascLf => 0x0A
  | .ascHex07 w => w
  | .ascHex89 w => w
  | .ascHexA => 0x41
  | .ascHexBC w => w
  | .ascHexDE w => w
  | .ascHexF => 0x46

/-- The bytes of an instruction: its one word. -/
def encode (i : Instr) : List Byte := [encodeByte i]

/-- The bytes of an instruction word of `nbits` bits as the host numbers them: byte `k` is bits `8*k+7` to `8*k`, and
the bits above `nbits` are zero. -/
def tableBytes : (nbytes nbits w : Nat) → List Byte
  | 0, _, _ => []
  | n + 1, nbits, w => BitVec.ofNat 8 (w % 2 ^ nbits) :: tableBytes n (nbits - 8) (w / 256)

/-- What the decoder reads from a word of spec/opcode_table.json as the next command: the byte is taken as one
written to `CMD`, the place from which the block fetches its operations (log entry 9). -/
def decodeTableWord (nbits w : Nat) : Option Instr :=
  match decode .cmd8 (tableBytes ((nbits + 7) / 8) nbits w) with
  | .ok (i, []) => some i
  | _           => none

end Sys2Proof
end

