-- ==== Sys2Proof/Machine/State.lean ====
section
/-! DEFINITION. State: everything the spec gives the block, as plain data, and the state after reset
(spec/10_state.md, spec/20_memory.md R60 to R67, spec/70_reset_and_hazards.md R290). -/

namespace Sys2Proof.Machine

/-- The two byte-addressed frame buffers (R60). -/
inductive Space where
  | obuf | ibuf
  deriving DecidableEq, Repr

/-- The content of a frame buffer: the bytes written since reset, by index. A byte that is not listed has never been
written and reads as a free value, so no listed byte equals what an unlisted one reads as (R56, U1; log entry 4). -/
abbrev Memory := List Host.Cell

/-- The canonical form of a buffer's content: indices strictly rising. -/
def Memory.wf : Memory → Bool
  | [] => true
  | [_] => true
  | c :: d :: rest => decide (c.1 < d.1) && Memory.wf (d :: rest)

/-- The error codes an ended operation may report (R260). `OK` is the end by `done`. -/
inductive Err where
  | timeout | crcMismatch | unknownFunction | tooLong | deadline | badOperand | badCommand | badHex
  deriving DecidableEq, Repr

/-- The sequencer register `SEQ` (R30, R31). The arguments are the local variables of the pseudocode that live
across the suspension point (log entry 6). -/
inductive Seq where
  /-- `S_IDLE`. -/
  | idle
  /-- `S_EXEC`, entered and left within one atomic step. -/
  | exec
  /-- `S_X_READ`. -/
  | xRead
  /-- `S_X_TOK1`. -/
  | xTok1
  /-- `S_X_TOK2`, with the first character. -/
  | xTok2 (first : Byte)
  /-- `S_X_FLUSH`, with the bytes discarded so far. -/
  | xFlush (popped : Nat)
  /-- `S_X_ECHO`, with the bytes discarded so far and the bytes to discard. -/
  | xEcho (got want : Nat)
  /-- `S_A_SEEK`. -/
  | aSeek
  /-- `S_A_HI`. -/
  | aHi
  /-- `S_A_LO`, with the high-nibble character. -/
  | aLo (high : Byte)
  /-- `S_A_LF`. -/
  | aLf
  /-- `S_R_UID`. -/
  | rUid
  /-- `S_R_FC`. -/
  | rFc
  /-- `S_R_CNT`; `wide` tells class `COUNT16` from `COUNT8`. -/
  | rCnt (wide : Bool)
  /-- `S_R_CNT2`, with the count high byte. -/
  | rCnt2 (high : Byte)
  /-- `S_R_BODY`, with the bytes still to read after the one awaited. -/
  | rBody (more : Nat)
  /-- `S_W_FLUSH`, with the bytes discarded so far. -/
  | wFlush (popped : Nat)
  /-- `S_W_ECHO`, with the bytes discarded so far and the bytes to discard. -/
  | wEcho (got want : Nat)
  deriving DecidableEq, Repr

/-- One action of an agent other than the sequencer (R16, R63, R66, R67, R230, R291), or the wish that the sequencer
move now. The model holds the actions to come as a list in `State` (log entry 2). -/
inductive Move where
  /-- The sequencer takes a turn, if it can. -/
  | turn
  /-- The time base counts one millisecond. -/
  | tick
  /-- The line appends a byte to RX. -/
  | lineRx (b : Byte)
  /-- The line removes the head of TX. -/
  | lineTx
  /-- An echoing line removes the head of TX and appends it to RX (R67). -/
  | lineEcho
  /-- The host writes a register. -/
  | hostWrite (number : Nat) (value : Word)
  /-- The host reads a register. -/
  | hostRead (number : Nat)
  /-- The host writes a buffer byte. -/
  | hostStore (space : Space) (index : Nat) (b : Byte)
  /-- The host reads a buffer byte. -/
  | hostLoad (space : Space) (index : Nat)
  /-- The host polls `STATUS.DONE` and goes on when it reads 1 (R125, R232). -/
  | hostWait
  /-- The reset input (R55, R291). -/
  | reset
  deriving DecidableEq, Repr

/-- The configuration registers (R41 to R45). -/
structure CfgRegs where
  unitId         : Byte
  ctrl           : Byte
  readTimeout    : Half
  echoTimeout    : Half
  overallTimeout : Half
  deriving DecidableEq, Repr

/-- The operand registers (R23). -/
structure OpRegs where
  uid   : Byte
  fc    : Byte
  len   : Len
  off   : Len
  byte  : Byte
  byte2 : Byte
  sel   : BitVec 1
  deriving DecidableEq, Repr

/-- The result registers (R24). -/
structure ResRegs where
  uid     : Byte
  fc      : Byte
  len     : Len
  lo      : Byte
  hi      : Byte
  tok     : BitVec 2
  cnt     : Word
  echoCnt : Word
  deriving DecidableEq, Repr

/-- The time registers (R47). -/
structure TimeRegs where
  now     : Word
  t0Read  : Word
  tNext   : Word
  t0Phase : Word
  t0Op    : Word
  deriving DecidableEq, Repr

/-- The state of the block and of its two line queues (R20), with the model's own fields last. -/
structure State where
  /-- The parameters of R6, which no step changes. -/
  params : Params
  cfg : CfgRegs
  op : OpRegs
  res : ResRegs
  /-- `CRC_LO`, `CRC_HI` (R21). -/
  crcLo : Byte
  crcHi : Byte
  /-- `LRC_ACC` (R22). -/
  lrcAcc : Byte
  /-- `OLEN`, `ILEN` (R25). -/
  olen : Len
  ilen : Len
  /-- `SEQ` (R30). -/
  seq : Seq
  /-- Whether the sequencer is inside `Sleep` (R153; log entry 6). -/
  sleeping : Bool
  /-- `STATUS` (R33). -/
  status : Byte
  /-- `ERR_INFO` (R36). -/
  errInfo : Half
  /-- `CMD` (R46). -/
  cmd : Byte
  time : TimeRegs
  /-- `OBUF`, `IBUF` (R50, R51). -/
  obuf : Memory
  ibuf : Memory
  /-- `RX`, `TX`, oldest byte first (R53, R64, R65). -/
  rx : List Byte
  tx : List Byte
  /-- The model's own: whether the host has written `CFG_UNIT_ID` since reset (R56; log entry 4). -/
  unitIdWritten : Bool
  /-- The model's own: what the last host read returned (log entry 8). -/
  readData : Word
  /-- The model's own: how many free values have been drawn (log entry 4). -/
  draws : Nat
  /-- The model's own: what the host, the line and the time base do next (log entry 2). -/
  moves : List Move
  deriving DecidableEq, Repr

/-- Why the machine stops. -/
inductive Fault where
  /-- A buffer index at or beyond `BUF_SIZE`, for which R62 defines no behaviour. Raised by a host access outside a
  buffer, and by a frame reader in a state no run reaches. Safe: the model stops. -/
  | bufferIndexOutside
  /-- A turn found `SEQ` at `S_EXEC`, which R31 says no agent ever observes. Raised by the sequencer in a state no run
  reaches. Safe: the model stops. -/
  | execObserved
  deriving DecidableEq, Repr

/-- Why an instruction has no meaning. -/
inductive Refusal where
  /-- The instruction's arm in `exec` gives it no meaning yet. Raised by no arm. Safe. -/
  | notModelled (mnemonic : String)
  /-- A function code or a character was executed while no reader waits for one. Raised by the rows of formats RTU_FC
  and ASC_CHAR; `step` never executes them so. Safe: the model stops. -/
  | codeNotAwaited
  deriving DecidableEq, Repr

/-- The outcome of a step. -/
abbrev Result := Host.Outcome State Fault Refusal

/-- The registers the reset input sets, over what it leaves alone: the queues (R53), the parameters and the model's
own record of the environment (R55, R290). -/
def State.resetOver (params : Params) (rx tx : List Byte) (readData : Word) (draws : Nat) (moves : List Move) : State :=
  { params := params
    cfg := { unitId := 0, ctrl := 0, readTimeout := Config.readTimeoutReset, echoTimeout := Config.echoTimeoutReset
             overallTimeout := 0 }
    op := { uid := 0, fc := 0, len := 0, off := 0, byte := 0, byte2 := 0, sel := 0 }
    res := { uid := 0, fc := 0, len := 0, lo := 0, hi := 0, tok := 0, cnt := 0, echoCnt := 0 }
    crcLo := Config.crcStart, crcHi := Config.crcStart, lrcAcc := 0, olen := 0, ilen := 0
    seq := .idle, sleeping := false, status := 0, errInfo := 0, cmd := 0
    time := { now := 0, t0Read := 0, tNext := 0, t0Phase := 0, t0Op := 0 }
    obuf := [], ibuf := [], rx := rx, tx := tx
    unitIdWritten := false, readData := readData, draws := draws, moves := moves }

/-- The machine right after its power-up reset: R55's values, empty queues and nothing to come (log entries 1, 2, 5,
7, 8). -/
def State.reset : State :=
  State.resetOver Config.vectorParams [] [] 0 0 []

end Sys2Proof.Machine
end

