-- ==== Sys2Proof/Machine/Flags.lean ====
section
/-! DEFINITION. Flags: the fields of `STATUS` and what command issue, `done`, `raise` and the host do to them
(spec/10_state.md R33 to R35, spec/60_exceptions.md R260). -/

namespace Sys2Proof.Machine

/-- `STATUS.BUSY`, bit 0. -/
def statusBusy (st : Byte) : Bool := st.getLsbD 0

/-- `STATUS.DONE`, bit 1. -/
def statusDone (st : Byte) : Bool := st.getLsbD 1

/-- `STATUS.ECHO_SHORT`, bit 2. -/
def statusEchoShort (st : Byte) : Bool := st.getLsbD 2

/-- `STATUS.HOST_VIOL`, bit 3. -/
def statusHostViol (st : Byte) : Bool := st.getLsbD 3

/-- `STATUS.ERR`, bits 7:4. -/
def statusErr (st : Byte) : BitVec 4 := st.extractLsb' 4 4

/-- `STATUS` from its fields. -/
def statusOf (err : BitVec 4) (hostViol echoShort done busy : Bool) : Byte :=
  err ++ BitVec.ofBool hostViol ++ BitVec.ofBool echoShort ++ BitVec.ofBool done ++ BitVec.ofBool busy

/-- The code of an error in `STATUS.ERR` (R260). -/
def errCode : Err → BitVec 4
  | .timeout         => 1
  | .crcMismatch     => 2
  | .unknownFunction => 3
  | .tooLong         => 4
  | .deadline        => 5
  | .badOperand      => 6
  | .badCommand      => 7
  | .badHex          => 8

/-- `STATUS` at command issue: busy, not done, no error; the sticky bits stay (R231). -/
def statusIssued (st : Byte) : Byte :=
  statusOf 0 (statusHostViol st) (statusEchoShort st) false true

/-- `STATUS` at the end of an operation with code `err`: done, not busy; the sticky bits stay (R270, R271). -/
def statusEnded (err : BitVec 4) (st : Byte) : Byte :=
  statusOf err (statusHostViol st) (statusEchoShort st) true false

/-- `STATUS` after a short echo (R34, R160). -/
def statusSetEchoShort (st : Byte) : Byte :=
  statusOf (statusErr st) (statusHostViol st) true (statusDone st) (statusBusy st)

/-- `STATUS` after a host write while busy (R35, R233). -/
def statusSetHostViol (st : Byte) : Byte :=
  statusOf (statusErr st) true (statusEchoShort st) (statusDone st) (statusBusy st)

/-- `STATUS` after an idle host write of `v` to it: each sticky bit is cleared by a 1 in its place (R234). -/
def statusClear (v st : Byte) : Byte :=
  statusOf (statusErr st) (statusHostViol st && !statusHostViol v) (statusEchoShort st && !statusEchoShort v)
    (statusDone st) (statusBusy st)

/-- `CFG_CTRL.ECHO_EN`, bit 0 (R42). -/
def echoEnabled (s : State) : Bool := s.cfg.ctrl.getLsbD 0

/-- `CFG_CTRL.FLUSH_EN`, bit 1 (R42). -/
def flushEnabled (s : State) : Bool := s.cfg.ctrl.getLsbD 1

/-- What a host write of `v` to `CFG_CTRL` stores: bits 7:2 are reserved and read as zero (R42, R123). -/
def ctrlStored (v : Byte) : Byte := v &&& 0x03

end Sys2Proof.Machine
end

