-- ==== Sys2Proof/Machine/Ops.lean ====
section
/-! DEFINITION. Ops: the shared operations: buffers, free values, queues, command entry, the two ends of an operation,
and waiting (spec/00_scope.md R10 to R12, spec/20_memory.md, spec/41_adapter.md R150 to R153,
spec/60_exceptions.md R270, R271). -/

namespace Sys2Proof.Machine

/-! ### Buffers -/

/-- The byte a buffer's content lists at an index. -/
def memGet : Memory → Nat → Option Byte
  | [], _ => none
  | c :: rest, i => if c.1 = i then some c.2 else memGet rest i

/-- A buffer's content with byte `b` written at index `i`. -/
def memSet : Memory → Nat → Byte → Memory
  | [], i, b => [(i, b)]
  | c :: rest, i, b =>
    if i < c.1 then (i, b) :: c :: rest
    else if i = c.1 then (i, b) :: rest
    else c :: memSet rest i b

/-- The content of a space. -/
def memOf (sp : Space) (s : State) : Memory :=
  match sp with
  | .obuf => s.obuf
  | .ibuf => s.ibuf

/-- The byte last written at `SPACE:i` since reset, if any (R10). -/
def byteAt (sp : Space) (i : Nat) (s : State) : Option Byte := memGet (memOf sp s) i

/-- `MemWrite(SPACE:i, 1, b)`. The caller has checked the index (R10, R62). -/
def store (sp : Space) (i : Nat) (b : Byte) (s : State) : State :=
  match sp with
  | .obuf => { s with obuf := memSet s.obuf i b }
  | .ibuf => { s with ibuf := memSet s.ibuf i b }

/-- The next free value, and the state with one more drawn (U1, U2, U3; log entry 4). -/
def draw (s : State) : Word × State :=
  (Config.freeValue s.draws, { s with draws := s.draws + 1 })

/-- `MemRead(SPACE:i, 1)`: the byte written there, or a free value where nothing has been written (R10, R56, U1). The
caller has checked the index (R62). -/
def fetch (sp : Space) (i : Nat) (s : State) : Byte × State :=
  match byteAt sp i s with
  | some b => (b, s)
  | none   => ((draw s).1.setWidth 8, (draw s).2)

/-- `MemRead` of `n` bytes from index `i` on, one after the other. -/
def fetchBytes (sp : Space) : (i n : Nat) → State → List Byte × State
  | _, 0, s => ([], s)
  | i, n + 1, s =>
    ((fetch sp i s).1 :: (fetchBytes sp (i + 1) n (fetch sp i s).2).1, (fetchBytes sp (i + 1) n (fetch sp i s).2).2)

/-- `CFG_UNIT_ID` as a reader compares it and the host reads it: a free value until the host has written it (R41,
R56, U2; log entry 4). -/
def readUnitId (s : State) : Byte × State :=
  if s.unitIdWritten then (s.cfg.unitId, s) else ((draw s).1.setWidth 8, (draw s).2)

/-! ### Queues -/

/-- `TxPush` of each byte of a list in turn (R152). -/
def txPush (bs : List Byte) (s : State) : State := { s with tx := s.tx ++ bs }

/-- `RxAvail()` (R150). -/
def rxAvail (s : State) : Nat := s.rx.length

/-! ### The beginning and the end of an operation -/

/-- The value is the code of one of the twenty-two operations (R120). -/
def isOperationCode (v : Byte) : Bool :=
  decide (v.toNat ≤ 0x08) || decide (0x10 ≤ v.toNat ∧ v.toNat ≤ 0x18) || decide (0x20 ≤ v.toNat ∧ v.toNat ≤ 0x23)

/-- The time registers at the write of `v` to `CMD`: `T0_OP <- NOW` (R231), but for an illegal code, at which no state
but `CMD`, `STATUS` and `ERR_INFO` changes (R122, R267, vector V70; DEDUCED, log entry 10). -/
def issueTime (v : Byte) (t : TimeRegs) : TimeRegs := if isOperationCode v then { t with t0Op := t.now } else t

/-- What the write of `v` to `CMD` does before the operation runs (R231). -/
def commandEntry (v : Byte) (s : State) : State :=
  { s with cmd := v, status := statusIssued s.status, errInfo := 0, time := issueTime v s.time, seq := .exec
           sleeping := false }

/-- The state in which an operation has ended with code `err` and detail `info`. -/
def ended (err : BitVec 4) (info : Half) (s : State) : State :=
  { s with status := statusEnded err s.status, errInfo := info, seq := .idle, sleeping := false }

/-- `done`, the completion entry (R12, R271). -/
def complete (s : State) : Result := .next (ended 0 0 s)

/-- `raise E(info)`, the error entry (R12, R270). -/
def raise (e : Err) (info : Half) (s : State) : Result := .next (ended (errCode e) info s)

/-! ### Waiting -/

/-- Milliseconds from `t0` to `NOW`, modulo 2^32 (R47). -/
def elapsed (t0 : Word) (s : State) : Nat := (s.time.now - t0).toNat

/-- `Sleep(POLL_MS)` (R153). -/
def sleep (s : State) : State :=
  { s with time.tNext := s.time.now + Config.pollMs, sleeping := true }

/-- Begin a timeout-bounded read: `T0_READ <- NOW`, and the sequencer waits in `q` (R154, R186). -/
def beginRead (q : Seq) (s : State) : State :=
  { s with seq := q, time.t0Read := s.time.now, sleeping := false }

/-- Begin a flush or an echo discard: `T0_PHASE <- NOW`, and the sequencer waits in `q` (R159, R160). -/
def beginPhase (q : Seq) (s : State) : State :=
  { s with seq := q, time.t0Phase := s.time.now, sleeping := false }

/-- The sequencer takes the byte at the head of RX, the rest being `rest` (R151). -/
def popped (rest : List Byte) (s : State) : State := { s with rx := rest, sleeping := false }

/-- The state one millisecond later (R16, R47). -/
def tick (s : State) : State := { s with time.now := s.time.now + 1 }

end Sys2Proof.Machine
end

