-- ==== Sys2Proof/Machine/Operands.lean ====
section
/-! DEFINITION. Operands: the operand forms: buffer ranges, body lengths, hex characters, counts and length classes
(spec/10_state.md R23, spec/30_encoding.md R100, R101, R110, R111, spec/41_adapter.md R155 to R157). -/

namespace Sys2Proof.Machine

/-! ### Ranges and lengths -/

/-- The space `OP_SEL` selects: 0 is OBUF, 1 is IBUF (R23). -/
def selected (s : State) : Space := if s.op.sel = 0 then .obuf else .ibuf

/-- The range `OP_OFF .. OP_OFF + OP_LEN - 1` lies inside a buffer; the sum does not wrap (R62, R134). -/
def rangeFits (s : State) : Bool := decide (s.op.off.toNat + s.op.len.toNat ≤ s.params.bufSize)

/-- The bytes of the range in a space, in index order. -/
def fetchRange (sp : Space) (s : State) : List Byte × State :=
  fetchBytes sp s.op.off.toNat s.op.len.toNat s

/-- A body of `OP_LEN` bytes fits OBUF with `extra` bytes around it (R62, R180, R200). -/
def frameFits (extra : Nat) (s : State) : Bool := decide (s.op.len.toNat + extra ≤ s.params.bufSize)

/-! ### Hex characters -/

/-- The characters of the ASCII envelope (R8, R90). -/
def charStart : Byte := 0x3A
def charCr : Byte := 0x0D
def charLf : Byte := 0x0A

/-- `IsHex(c)`: `0x30..0x39` or `0x41..0x46` (R91, R155). -/
def isHex (c : Byte) : Bool :=
  decide (0x30 ≤ c.toNat ∧ c.toNat ≤ 0x39) || decide (0x41 ≤ c.toNat ∧ c.toNat ≤ 0x46)

/-- `val(c)` of a hex character (R100, R157). -/
def hexVal (c : Byte) : Nat := if c.toNat ≤ 0x39 then c.toNat - 0x30 else c.toNat - 0x41 + 10

/-- `chr(v)` of a nibble (R100, R156). -/
def hexChr (v : BitVec 4) : Byte :=
  if v.toNat ≤ 9 then BitVec.ofNat 8 (0x30 + v.toNat) else BitVec.ofNat 8 (0x41 + (v.toNat - 10))

/-- The first character of `HexEnc(b)`, from bits 7:4 (R69, R156). -/
def hexEncHi (b : Byte) : Byte := hexChr (b.extractLsb' 4 4)

/-- The second character of `HexEnc(b)`, from bits 3:0 (R69, R156). -/
def hexEncLo (b : Byte) : Byte := hexChr (b.extractLsb' 0 4)

/-- `HexDec(c1, c2)` of two hex characters (R100, R157). -/
def hexDecPair (c1 c2 : Byte) : Byte := BitVec.ofNat 8 (16 * hexVal c1 + hexVal c2)

/-- The hex pairs of a byte sequence, in order. -/
def hexPairs : List Byte → List Byte
  | [] => []
  | b :: rest => hexEncHi b :: hexEncLo b :: hexPairs rest

/-! ### Counts and length classes -/

/-- The value of a two-byte count, high byte first (R70, R101). -/
def countWord (high low : Byte) : Nat := 256 * high.toNat + low.toNat

/-- The class a function-code table gives a code; a code it does not list is `UNKNOWN` (R110, R111). -/
def classIn : List (Byte × LenClass) → Byte → LenClass
  | [], _ => .unknown
  | r :: rest, f => if r.1 = f then r.2 else classIn rest f

/-- `FC_TABLE(f)` (R111). -/
def lenClass (f : Byte) (s : State) : LenClass := classIn s.params.fcTable f

end Sys2Proof.Machine
end

