-- ==== Sys2Proof/Machine/Adapter.lean ====
section
/-! DEFINITION. Adapter: the timeout-bounded read, the flush and the echo discard, one poll-loop turn each, and the
nine adapter operations (spec/41_adapter.md). -/

namespace Sys2Proof.Machine

/-! ### One turn of a poll loop -/

/-- `RxRead` finds no byte: `Timeout` at its bound, else `Sleep` (R154). -/
def readEmpty (s : State) : Result :=
  if s.cfg.readTimeout.toNat ≤ elapsed s.time.t0Read s then raise .timeout 0 s else .next (sleep s)

/-- One turn of `RxRead(CFG_READ_TIMEOUT_MS)`; `k` goes on with the byte (R154). -/
def readTurn (k : Byte → State → Result) (s : State) : Result :=
  match s.rx with
  | b :: rest => k b (popped rest s)
  | []        => readEmpty s

/-- The loop of `RxFlush` stops after `n` bytes: RX is empty, `FLUSH_MAX` is reached, or the window is over (R159). -/
def flushStops (n : Nat) (s : State) : Bool :=
  s.rx.isEmpty || decide (s.params.flushMax ≤ n) || decide (s.params.flushWindowMs ≤ elapsed s.time.t0Phase s)

/-- One turn of `RxFlush` after `n` bytes; `wait` is the wait state and `k` goes on with the count (R159). -/
def flushTurn (wait : Nat → Seq) (k : Nat → State → Result) (n : Nat) (s : State) : Result :=
  if flushStops n s then k n s
  else .next { popped s.rx.tail s with seq := wait (n + 1) }

/-- The end of `EchoDiscard(want)` after `got` bytes, and of the operation (R34, R160). -/
def echoFinish (got want : Nat) (s : State) : Result :=
  if got < want then
    complete { s with res.echoCnt := BitVec.ofNat 32 got, status := statusSetEchoShort s.status }
  else complete { s with res.echoCnt := BitVec.ofNat 32 got }

/-- `EchoDiscard` finds no byte: it gives up at the deadline, else sleeps (R160). -/
def echoEmpty (got want : Nat) (s : State) : Result :=
  if s.cfg.echoTimeout.toNat ≤ elapsed s.time.t0Phase s then echoFinish got want s else .next (sleep s)

/-- One turn of `EchoDiscard(want)` after `got` bytes; `wait` is the wait state (R160). -/
def echoTurn (wait : Nat → Nat → Seq) (got want : Nat) (s : State) : Result :=
  if got = want then echoFinish got want s
  else
    match s.rx with
    | _ :: rest => .next { popped rest s with seq := wait (got + 1) want }
    | []        => echoEmpty got want s

/-! ### What the stand-alone reads do with a byte -/

/-- `RX_READ` has its byte (R162). -/
def rxReadByte (b : Byte) (s : State) : Result := complete { s with res.lo := b }

/-- `ASC_RX_TOKEN` has its token (R163). -/
def tokenDone (kind : BitVec 2) (b : Byte) (s : State) : Result := complete { s with res.tok := kind, res.lo := b }

/-- `BadHex` for a character (R158, R268). -/
def badHex (c : Byte) (s : State) : Result := raise .badHex (c.setWidth 16) s

/-- `AscToken` has its first character (R158). -/
def tokenFirst (c : Byte) (s : State) : Result :=
  if c = charStart then tokenDone 1 0 s
  else if c = charCr then .next (beginRead (.xTok2 c) s)
  else if isHex c then .next (beginRead (.xTok2 c) s)
  else badHex c s

/-- `AscToken` has its second character (R158). -/
def tokenSecond (first c : Byte) (s : State) : Result :=
  if first = charCr then if c = charLf then tokenDone 2 0 s else badHex c s
  else if isHex c then tokenDone 0 (hexDecPair first c) s
  else badHex c s

/-! ### Operations -/

/-- `RX_AVAIL` (R161). -/
def execRxAvail (s : State) : Result :=
  complete { s with res.cnt := BitVec.ofNat 32 (min (rxAvail s) (2 ^ 32 - 1)) }

/-- `RX_READ`: the read begins (R162). -/
def execRxRead (s : State) : Result := .next (beginRead .xRead s)

/-- `ASC_RX_TOKEN`: the read of the first character begins (R158, R163). -/
def execAscRxToken (s : State) : Result := .next (beginRead .xTok1 s)

/-- The effect of `TX_WRITE` and `ASC_TX_WRITE` on the bytes to push. -/
def pushDone (bs : List Byte) (s : State) : Result :=
  complete { txPush bs s with res.cnt := BitVec.ofNat 32 bs.length }

/-- `TX_WRITE` (R164). -/
def execTxWrite (s : State) : Result :=
  if rangeFits s then pushDone (fetchRange .obuf s).1 (fetchRange .obuf s).2
  else raise .badOperand 0 s

/-- `ASC_TX_WRITE` (R165). -/
def execAscTxWrite (s : State) : Result :=
  if rangeFits s then pushDone (hexPairs (fetchRange .obuf s).1) (fetchRange .obuf s).2
  else raise .badOperand 0 s

/-- `RX_FLUSH`: the flush begins (R159, R166). -/
def execRxFlush (s : State) : Result := .next (beginPhase (.xFlush 0) s)

/-- `ECHO_DISCARD`: the echo discard begins (R160, R167). -/
def execEchoDiscard (s : State) : Result := .next (beginPhase (.xEcho 0 s.op.len.toNat) s)

/-- `HEX_ENC` (R168). -/
def execHexEnc (s : State) : Result :=
  complete { s with res.lo := hexEncHi s.op.byte, res.hi := hexEncLo s.op.byte }

/-- `HEX_DEC` (R169). -/
def execHexDec (s : State) : Result :=
  if isHex s.op.byte then
    if isHex s.op.byte2 then complete { s with res.lo := hexDecPair s.op.byte s.op.byte2 }
    else badHex s.op.byte2 s
  else badHex s.op.byte s

end Sys2Proof.Machine
end

