-- ==== Sys2Proof/Machine/Ascii.lean ====
section
/-! DEFINITION. Ascii: the ASCII frame codec: its two operations, the character read with the overall deadline, and
what an ASCII reader does with each character (spec/42_ascii_codec.md; spec/41_adapter.md R158). -/

namespace Sys2Proof.Machine

/-! ### Writing a frame -/

/-- The frame in OBUF goes out as characters, and the echo discard begins if the line echoes (R180, R182). -/
def ascTransmit (bs : List Byte) (s : State) : Result :=
  if echoEnabled s then .next (beginPhase (.wEcho 0 (2 * bs.length + 3)) s) else complete s

/-- The frame's bytes, read back from OBUF, are pushed (R180). -/
def ascPush (bs : List Byte) (s : State) : Result :=
  ascTransmit bs { txPush (charStart :: hexPairs bs ++ [charCr, charLf]) s with
    res.cnt := BitVec.ofNat 32 (2 * bs.length + 3) }

/-- The LRC8 of unit id, function code and body is attached and the whole frame read back (R180, R181). -/
def ascAttach (covered : List Byte) (s : State) : State :=
  { store .obuf (s.op.len.toNat + 2) (lrcOf (sumBytes covered)) s with
    lrcAcc := sumBytes covered, olen := BitVec.ofNat 17 (s.op.len.toNat + 3) }

/-- Unit id and function code are placed before the body (R180, R200, R204). -/
def placeHeader (s : State) : State := store .obuf 1 s.op.fc (store .obuf 0 s.op.uid s)

/-- The state when the frame stands complete in OBUF (R180). -/
def ascBuild (s : State) : State :=
  ascAttach (fetchBytes .obuf 0 (s.op.len.toNat + 2) (placeHeader s)).1
    (fetchBytes .obuf 0 (s.op.len.toNat + 2) (placeHeader s)).2

/-- `ASC_WRITE_FRAME` (R180). -/
def execAscWriteFrame (s : State) : Result :=
  if frameFits 3 s then
    ascPush (fetchBytes .obuf 0 (s.op.len.toNat + 3) (ascBuild s)).1
      (fetchBytes .obuf 0 (s.op.len.toNat + 3) (ascBuild s)).2
  else raise .badOperand 0 s

/-! ### Reading a frame -/

/-- The overall deadline has passed (R45, R186). -/
def deadlinePassed (s : State) : Bool :=
  decide (s.cfg.overallTimeout ≠ 0) && decide (s.cfg.overallTimeout.toNat ≤ elapsed s.time.t0Op s)

/-- One turn of `RxReadA`; `k` goes on with the character (R186). -/
def readTurnA (k : Byte → State → Result) (s : State) : Result :=
  if deadlinePassed s then raise .deadline 0 s else readTurn k s

/-- `SEEK`: discard until the start token (R185). -/
def ascSeek (s : State) : Result := .next (beginRead .aSeek { s with ilen := 0 })

/-- `ACCUM`: a start token has been consumed (R185). -/
def ascAccum (s : State) : Result := .next (beginRead .aHi { s with ilen := 0 })

/-- A decoded byte is accumulated, or the frame fails for want of room (R185, D14). -/
def ascByte (b : Byte) (s : State) : Result :=
  if s.ilen.toNat = s.params.bufSize then ascSeek s
  else if s.ilen.toNat < s.params.bufSize then
    .next (beginRead .aHi { store .ibuf s.ilen.toNat b s with ilen := s.ilen + 1 })
  else .fault .bufferIndexOutside

/-- The unit-id filter and the delivery (R185, R189, R190); `u` is `CFG_UNIT_ID`. -/
def ascDeliver (uid fc u : Byte) (s : State) : Result :=
  if uid = u then complete { s with res.uid := uid, res.fc := fc, res.len := s.ilen - 3 } else ascSeek s

/-- The unit id and the function code are read back and the filter runs. -/
def ascFilter (s : State) : Result :=
  ascDeliver (fetch .ibuf 0 s).1 (fetch .ibuf 1 (readUnitId (fetch .ibuf 0 s).2).2).1
    (readUnitId (fetch .ibuf 0 s).2).1 (fetch .ibuf 1 (readUnitId (fetch .ibuf 0 s).2).2).2

/-- The LRC comparison; `last` is the received LRC byte (R188). -/
def ascVerify (last : Byte) (s : State) : Result :=
  if last = lrcOf s.lrcAcc then ascFilter s else ascSeek s

/-- The sum of the bytes before the LRC byte is formed (R188). -/
def ascSum (s : State) : State :=
  { (fetchBytes .ibuf 0 (s.ilen.toNat - 1) s).2 with
    lrcAcc := sumBytes (fetchBytes .ibuf 0 (s.ilen.toNat - 1) s).1 }

/-- `CHECK`: the end token is complete (R185). -/
def ascCheck (s : State) : Result :=
  if s.ilen.toNat < 3 then ascSeek s
  else if s.params.bufSize < s.ilen.toNat then .fault .bufferIndexOutside
  else ascVerify (fetch .ibuf (s.ilen.toNat - 1) (ascSum s)).1 (fetch .ibuf (s.ilen.toNat - 1) (ascSum s)).2

/-- `HI`: a high-nibble character, `CR` or a start token is expected (R185). -/
def ascHigh (c : Byte) (s : State) : Result :=
  if c = charStart then ascAccum s
  else if c = charCr then .next (beginRead .aLf s)
  else if isHex c then .next (beginRead (.aLo c) s)
  else ascSeek s

/-- `LO`: a low-nibble character is expected (R185). -/
def ascLow (high c : Byte) (s : State) : Result :=
  if c = charStart then ascAccum s
  else if isHex c then ascByte (hexDecPair high c) s
  else ascSeek s

/-- `LF`: the second character of the end token is expected (R185). -/
def ascEnd (c : Byte) (s : State) : Result :=
  if c = charStart then ascAccum s
  else if c = charLf then ascCheck s
  else ascSeek s

/-- `ASC_READ_FRAME`: the scan begins (R185). -/
def execAscReadFrame (s : State) : Result := ascSeek s

/-! ### Characters -/

/-- An ASCII reader takes a character, in the wait state it is in (R92, R158, R185). -/
def takeCharacter (c : Byte) (s : State) : Result :=
  match s.seq with
  | .xTok1       => tokenFirst c s
  | .xTok2 first => tokenSecond first c s
  | .aSeek       => if c = charStart then ascAccum s else ascSeek s
  | .aHi         => ascHigh c s
  | .aLo high    => ascLow high c s
  | .aLf         => ascEnd c s
  | .idle | .exec | .xRead | .xFlush _ | .xEcho _ _ | .rUid | .rFc | .rCnt _ | .rCnt2 _ | .rBody _ | .wFlush _
  | .wEcho _ _   => .refused .codeNotAwaited

/-- `ASC_START`: `':'` (R92). -/
def execAscStart (s : State) : Result := takeCharacter 0x3A s

/-- `ASC_CR` (R92). -/
def execAscCr (s : State) : Result := takeCharacter 0x0D s

/-- `ASC_LF` (R92). -/
def execAscLf (s : State) : Result := takeCharacter 0x0A s

/-- `ASC_HEX_0_7`: `'0'` to `'7'` (R91). -/
def execAscHex07 (c : Byte) (s : State) : Result := takeCharacter c s

/-- `ASC_HEX_8_9`: `'8'` and `'9'` (R91). -/
def execAscHex89 (c : Byte) (s : State) : Result := takeCharacter c s

/-- `ASC_HEX_A`: `'A'` (R91). -/
def execAscHexA (s : State) : Result := takeCharacter 0x41 s

/-- `ASC_HEX_B_C`: `'B'` and `'C'` (R91). -/
def execAscHexBC (c : Byte) (s : State) : Result := takeCharacter c s

/-- `ASC_HEX_D_E`: `'D'` and `'E'` (R91). -/
def execAscHexDE (c : Byte) (s : State) : Result := takeCharacter c s

/-- `ASC_HEX_F`: `'F'` (R91). -/
def execAscHexF (s : State) : Result := takeCharacter 0x46 s

end Sys2Proof.Machine
end

