-- ==== Sys2Proof/Machine/Rtu.lean ====
section
/-! DEFINITION. Rtu: the RTU frame codec: its two operations, the reader's segments, and the function-code rows
(spec/43_rtu_codec.md; spec/30_encoding.md R110 to R113). -/

namespace Sys2Proof.Machine

/-! ### Writing a frame -/

/-- The frame `bs` in OBUF is pushed, and the echo discard begins if the line echoes (R200, R203). -/
def rtuPush (bs : List Byte) (s : State) : Result :=
  if echoEnabled s then .next (beginPhase (.wEcho 0 bs.length) (txPush bs s)) else complete (txPush bs s)

/-- The whole frame is read back from OBUF and transmitted (R200, R202). -/
def rtuTransmit (s : State) : Result :=
  rtuPush (fetchBytes .obuf 0 (s.op.len.toNat + 4) s).1 (fetchBytes .obuf 0 (s.op.len.toNat + 4) s).2

/-- The CRC16 of unit id, function code and body is attached, low byte first (R68, R200, R201). `RES_CNT` is 0 and then
the flush count as R200 says, not the bytes pushed as R24's table has it for the write-frame operations (DEDUCED, log
entry 15). -/
def rtuAttach (covered : List Byte) (s : State) : State :=
  { store .obuf (s.op.len.toNat + 3) (crcBytes covered).2
      (store .obuf (s.op.len.toNat + 2) (crcBytes covered).1 (setCrc (crcBytes covered) s)) with
    olen := BitVec.ofNat 17 (s.op.len.toNat + 4), res.cnt := 0 }

/-- The state when the frame stands complete in OBUF (R200). -/
def rtuBuild (s : State) : State :=
  rtuAttach (fetchBytes .obuf 0 (s.op.len.toNat + 2) (placeHeader s)).1
    (fetchBytes .obuf 0 (s.op.len.toNat + 2) (placeHeader s)).2

/-- The flush comes first if it is on, then the transmission (R200, R202). -/
def rtuSend (s : State) : Result :=
  if flushEnabled s then .next (beginPhase (.wFlush 0) s) else rtuTransmit s

/-- The flush of a write has discarded `n` bytes: its last turn and the transmission are one step (R200, R202). -/
def rtuFlushed (n : Nat) (s : State) : Result := rtuTransmit { s with res.cnt := BitVec.ofNat 32 n }

/-- `RTU_WRITE_FRAME` (R200). -/
def execRtuWriteFrame (s : State) : Result :=
  if frameFits 4 s then rtuSend (rtuBuild s) else raise .badOperand 0 s

/-! ### Reading a frame -/

/-- `START`: a new frame begins with its unit id (R210). -/
def rtuStart (s : State) : Result := .next (beginRead .rUid { s with ilen := 0 })

/-- `App(b)`, then `k` (R210). The rule's own checks keep the index inside IBUF (R62). -/
def append (b : Byte) (k : State → Result) (s : State) : Result :=
  if s.ilen.toNat < s.params.bufSize then k { store .ibuf s.ilen.toNat b s with ilen := s.ilen + 1 }
  else .fault .bufferIndexOutside

/-- The length is known: `rem` bytes remain, and they must fit (R210, R220). -/
def rtuLength (rem : Nat) (s : State) : Result :=
  if s.ilen.toNat + rem ≤ s.params.bufSize then .next (beginRead (.rBody (rem - 1)) s)
  else raise .tooLong (BitVec.ofNat 16 (min (s.ilen.toNat + rem) 65535)) s

/-- The function code has been stored: act by its class (R210, R212 to R217). -/
def rtuClass (f : Byte) (s : State) : Result :=
  match lenClass f s with
  | .unknown => raise .unknownFunction (f.setWidth 16) s
  | .count8  => .next (beginRead (.rCnt false) s)
  | .count16 => .next (beginRead (.rCnt true) s)
  | .fixed6  => rtuLength 6 s
  | .fixed3  => rtuLength 3 s
  | .fixed8  => rtuLength 8 s

/-- The reader takes the unit id (R210). -/
def rtuUnitId (u : Byte) (s : State) : Result := append u (fun t => .next (beginRead .rFc t)) s

/-- The reader takes the function code (R210). It does so only in `S_R_FC`. -/
def takeFunctionCode (f : Byte) (s : State) : Result :=
  if s.seq = .rFc then append f (rtuClass f) s else .refused .codeNotAwaited

/-- The reader takes the count byte, or the count high byte (R210, R212, R213). -/
def rtuCount (wide : Bool) (c : Byte) (s : State) : Result :=
  append c (fun t => if wide then .next (beginRead (.rCnt2 c) t) else rtuLength (c.toNat + 2) t) s

/-- The reader takes the count low byte (R210, R213). -/
def rtuCountLow (high low : Byte) (s : State) : Result :=
  append low (rtuLength (countWord high low + 2)) s

/-- The unit-id filter and the delivery; `u` is `CFG_UNIT_ID` and `d` the bytes the CRC covers (R210, R218). -/
def rtuDeliver (uid fc u : Byte) (d : Nat) (s : State) : Result :=
  if uid = u then complete { s with res.uid := uid, res.fc := fc, res.len := BitVec.ofNat 17 (d - 2) }
  else rtuStart s

/-- The unit id and the function code are read back and the filter runs (R218, R221). -/
def rtuFilter (d : Nat) (s : State) : Result :=
  rtuDeliver (fetch .ibuf 0 s).1 (fetch .ibuf 1 (readUnitId (fetch .ibuf 0 s).2).2).1
    (readUnitId (fetch .ibuf 0 s).2).1 d (fetch .ibuf 1 (readUnitId (fetch .ibuf 0 s).2).2).2

/-- The CRC comparison, both bytes strictly (R102, R211). -/
def rtuVerify (low high : Byte) (d : Nat) (s : State) : Result :=
  if low = s.crcLo ∧ high = s.crcHi then rtuFilter d s else raise .crcMismatch (high ++ low) s

/-- The CRC of the bytes before the CRC is formed (R210). -/
def rtuSum (d : Nat) (s : State) : State :=
  setCrc (crcBytes (fetchBytes .ibuf 0 d s).1) (fetchBytes .ibuf 0 d s).2

/-- The frame is complete (R210). -/
def rtuCheck (s : State) : Result :=
  rtuVerify (fetch .ibuf (s.ilen.toNat - 2) (rtuSum (s.ilen.toNat - 2) s)).1
    (fetch .ibuf (s.ilen.toNat - 2 + 1) (fetch .ibuf (s.ilen.toNat - 2) (rtuSum (s.ilen.toNat - 2) s)).2).1
    (s.ilen.toNat - 2)
    (fetch .ibuf (s.ilen.toNat - 2 + 1) (fetch .ibuf (s.ilen.toNat - 2) (rtuSum (s.ilen.toNat - 2) s)).2).2

/-- After a body byte, `more` remain (R210). -/
def rtuNext (more : Nat) (s : State) : Result :=
  match more with
  | 0     => rtuCheck s
  | n + 1 => .next (beginRead (.rBody n) s)

/-- The reader takes a body or CRC byte, `more` remaining after it (R210). -/
def rtuBodyByte (more : Nat) (b : Byte) (s : State) : Result := append b (rtuNext more) s

/-- `RTU_READ_FRAME`: the reader begins (R210). -/
def execRtuReadFrame (s : State) : Result := rtuStart s

/-! ### Function codes

Each row is a definition of its own over the one segment that takes a function code. Its class is `FC_TABLE`'s
(R111); the default table's class is named. -/

/-- `FC_01_READ_COILS`, default class `COUNT8` (R112, R212). -/
def execFc01ReadCoils (s : State) : Result := takeFunctionCode 0x01 s

/-- `FC_02_READ_DISCRETE_INPUTS`, default class `COUNT8` (R112, R212). -/
def execFc02ReadDiscreteInputs (s : State) : Result := takeFunctionCode 0x02 s

/-- `FC_03_READ_HOLDING_REGISTERS`, default class `COUNT8` (R112, R212). -/
def execFc03ReadHoldingRegisters (s : State) : Result := takeFunctionCode 0x03 s

/-- `FC_04_READ_INPUT_REGISTERS`, default class `COUNT8` (R112, R212). -/
def execFc04ReadInputRegisters (s : State) : Result := takeFunctionCode 0x04 s

/-- `FC_05_WRITE_SINGLE_COIL`, default class `FIXED6` (R112, R214). -/
def execFc05WriteSingleCoil (s : State) : Result := takeFunctionCode 0x05 s

/-- `FC_06_WRITE_SINGLE_REGISTER`, default class `FIXED6` (R112, R214). -/
def execFc06WriteSingleRegister (s : State) : Result := takeFunctionCode 0x06 s

/-- `FC_07_READ_EXCEPTION_STATUS`, default class `FIXED3` (R112, R215). -/
def execFc07ReadExceptionStatus (s : State) : Result := takeFunctionCode 0x07 s

/-- `FC_08_DIAGNOSTICS`, default class `FIXED3` (R112, R215). -/
def execFc08Diagnostics (s : State) : Result := takeFunctionCode 0x08 s

/-- `FC_0B_GET_COMM_EVENT_COUNTER`, default class `FIXED6` (R112, R214). -/
def execFc0BGetCommEventCounter (s : State) : Result := takeFunctionCode 0x0B s

/-- `FC_0C_GET_COMM_EVENT_LOG`, default class `COUNT8` (R112, R212). -/
def execFc0CGetCommEventLog (s : State) : Result := takeFunctionCode 0x0C s

/-- `FC_0F_WRITE_MULTIPLE_COILS`, default class `FIXED6` (R112, R214). -/
def execFc0FWriteMultipleCoils (s : State) : Result := takeFunctionCode 0x0F s

/-- `FC_10_WRITE_MULTIPLE_REGISTERS`, default class `FIXED6` (R112, R214). -/
def execFc10WriteMultipleRegisters (s : State) : Result := takeFunctionCode 0x10 s

/-- `FC_11_REPORT_SLAVE_ID`, default class `COUNT8` (R112, R212). -/
def execFc11ReportSlaveId (s : State) : Result := takeFunctionCode 0x11 s

/-- `FC_14_READ_FILE_RECORD`, default class `COUNT8` (R112, R212). -/
def execFc14ReadFileRecord (s : State) : Result := takeFunctionCode 0x14 s

/-- `FC_15_WRITE_FILE_RECORD`, default class `COUNT8` (R112, R212). -/
def execFc15WriteFileRecord (s : State) : Result := takeFunctionCode 0x15 s

/-- `FC_16_MASK_WRITE_REGISTER`, default class `FIXED8` (R112, R216). -/
def execFc16MaskWriteRegister (s : State) : Result := takeFunctionCode 0x16 s

/-- `FC_17_READ_WRITE_MULTIPLE_REGISTERS`, default class `COUNT8` (R112, R212). -/
def execFc17ReadWriteMultipleRegisters (s : State) : Result := takeFunctionCode 0x17 s

/-- `FC_18_READ_FIFO_QUEUE`, default class `COUNT16` (R112, R213). -/
def execFc18ReadFifoQueue (s : State) : Result := takeFunctionCode 0x18 s

/-- `FC_UNKNOWN_00`, default class `UNKNOWN` (R112, R217). -/
def execFcUnknown00 (s : State) : Result := takeFunctionCode 0x00 s

/-- `FC_UNKNOWN_09`, default class `UNKNOWN` (R112, R217). -/
def execFcUnknown09 (s : State) : Result := takeFunctionCode 0x09 s

/-- `FC_UNKNOWN_0A`, default class `UNKNOWN` (R112, R217). -/
def execFcUnknown0A (s : State) : Result := takeFunctionCode 0x0A s

/-- `FC_UNKNOWN_0D`, default class `UNKNOWN` (R112, R217). -/
def execFcUnknown0D (s : State) : Result := takeFunctionCode 0x0D s

/-- `FC_UNKNOWN_0E`, default class `UNKNOWN` (R112, R217). -/
def execFcUnknown0E (s : State) : Result := takeFunctionCode 0x0E s

/-- `FC_UNKNOWN_12_13`, default class `UNKNOWN` (R112, R217). -/
def execFcUnknown1213 (code : Byte) (s : State) : Result := takeFunctionCode code s

/-- `FC_UNKNOWN_19`, default class `UNKNOWN` (R112, R217). -/
def execFcUnknown19 (s : State) : Result := takeFunctionCode 0x19 s

/-- `FC_UNKNOWN_1A_1B`, default class `UNKNOWN` (R112, R217). -/
def execFcUnknown1A1B (code : Byte) (s : State) : Result := takeFunctionCode code s

/-- `FC_UNKNOWN_1C_1F`, default class `UNKNOWN` (R112, R217). -/
def execFcUnknown1C1F (code : Byte) (s : State) : Result := takeFunctionCode code s

/-- `FC_UNKNOWN_20_3F`, default class `UNKNOWN` (R112, R217). -/
def execFcUnknown203F (code : Byte) (s : State) : Result := takeFunctionCode code s

/-- `FC_UNKNOWN_40_7F`, default class `UNKNOWN` (R112, R217). -/
def execFcUnknown407F (code : Byte) (s : State) : Result := takeFunctionCode code s

/-- `FC_UNKNOWN_80_FF`, default class `UNKNOWN` (R112, R217). -/
def execFcUnknown80FF (code : Byte) (s : State) : Result := takeFunctionCode code s

end Sys2Proof.Machine
end

