-- ==== Sys2Proof/Machine/Control.lean ====
section
/-! DEFINITION. Control: `NOP` and the illegal command codes (spec/44_host_control.md R235, spec/30_encoding.md R122,
spec/60_exceptions.md R267). -/

namespace Sys2Proof.Machine

/-- `NOP` (R235). -/
def execNop (s : State) : Result := complete s

/-- An illegal command code ends at once with `BadCommand` (R122, R231, R267). -/
def badCommand (code : Byte) (s : State) : Result := raise .badCommand (code.setWidth 16) s

/-- `ILLEGAL_09` (R122). -/
def execIllegal09 (s : State) : Result := badCommand 0x09 s

/-- `ILLEGAL_0A_0B` (R122). -/
def execIllegal0A0B (code : Byte) (s : State) : Result := badCommand code s

/-- `ILLEGAL_0C_0F` (R122). -/
def execIllegal0C0F (code : Byte) (s : State) : Result := badCommand code s

/-- `ILLEGAL_19` (R122). -/
def execIllegal19 (s : State) : Result := badCommand 0x19 s

/-- `ILLEGAL_1A_1B` (R122). -/
def execIllegal1A1B (code : Byte) (s : State) : Result := badCommand code s

/-- `ILLEGAL_1C_1F` (R122). -/
def execIllegal1C1F (code : Byte) (s : State) : Result := badCommand code s

/-- `ILLEGAL_24_27` (R122). -/
def execIllegal2427 (code : Byte) (s : State) : Result := badCommand code s

/-- `ILLEGAL_28_2F` (R122). -/
def execIllegal282F (code : Byte) (s : State) : Result := badCommand code s

/-- `ILLEGAL_30_3F` (R122). -/
def execIllegal303F (code : Byte) (s : State) : Result := badCommand code s

/-- `ILLEGAL_40_7F` (R122). -/
def execIllegal407F (code : Byte) (s : State) : Result := badCommand code s

/-- `ILLEGAL_80_FF` (R122). -/
def execIllegal80FF (code : Byte) (s : State) : Result := badCommand code s

end Sys2Proof.Machine
end

