-- ==== Sys2Proof/Machine/Dispatch.lean ====
section
/-! DEFINITION. Dispatch: the meaning of each instruction. -/

namespace Sys2Proof.Machine

def exec (i : Instr) (s : State) : Host.Outcome State Fault Refusal :=
  match i with
  | .nop => Sys2Proof.Machine.execNop s
  | .lrcInit => Sys2Proof.Machine.execLrcInit s
  | .lrcUpdate => Sys2Proof.Machine.execLrcUpdate s
  | .lrcRead => Sys2Proof.Machine.execLrcRead s
  | .lrcRange => Sys2Proof.Machine.execLrcRange s
  | .crcInit => Sys2Proof.Machine.execCrcInit s
  | .crcUpdate => Sys2Proof.Machine.execCrcUpdate s
  | .crcRead => Sys2Proof.Machine.execCrcRead s
  | .crcRange => Sys2Proof.Machine.execCrcRange s
  | .rxAvail => Sys2Proof.Machine.execRxAvail s
  | .rxRead => Sys2Proof.Machine.execRxRead s
  | .ascRxToken => Sys2Proof.Machine.execAscRxToken s
  | .txWrite => Sys2Proof.Machine.execTxWrite s
  | .ascTxWrite => Sys2Proof.Machine.execAscTxWrite s
  | .rxFlush => Sys2Proof.Machine.execRxFlush s
  | .echoDiscard => Sys2Proof.Machine.execEchoDiscard s
  | .hexEnc => Sys2Proof.Machine.execHexEnc s
  | .hexDec => Sys2Proof.Machine.execHexDec s
  | .ascWriteFrame => Sys2Proof.Machine.execAscWriteFrame s
  | .ascReadFrame => Sys2Proof.Machine.execAscReadFrame s
  | .rtuWriteFrame => Sys2Proof.Machine.execRtuWriteFrame s
  | .rtuReadFrame => Sys2Proof.Machine.execRtuReadFrame s
  | .illegal09 => Sys2Proof.Machine.execIllegal09 s
  | .illegal0A0B code => Sys2Proof.Machine.execIllegal0A0B code s
  | .illegal0C0F code => Sys2Proof.Machine.execIllegal0C0F code s
  | .illegal19 => Sys2Proof.Machine.execIllegal19 s
  | .illegal1A1B code => Sys2Proof.Machine.execIllegal1A1B code s
  | .illegal1C1F code => Sys2Proof.Machine.execIllegal1C1F code s
  | .illegal2427 code => Sys2Proof.Machine.execIllegal2427 code s
  | .illegal282F code => Sys2Proof.Machine.execIllegal282F code s
  | .illegal303F code => Sys2Proof.Machine.execIllegal303F code s
  | .illegal407F code => Sys2Proof.Machine.execIllegal407F code s
  | .illegal80FF code => Sys2Proof.Machine.execIllegal80FF code s
  | .fc01ReadCoils => Sys2Proof.Machine.execFc01ReadCoils s
  | .fc02ReadDiscreteInputs => Sys2Proof.Machine.execFc02ReadDiscreteInputs s
  | .fc03ReadHoldingRegisters => Sys2Proof.Machine.execFc03ReadHoldingRegisters s
  | .fc04ReadInputRegisters => Sys2Proof.Machine.execFc04ReadInputRegisters s
  | .fc05WriteSingleCoil => Sys2Proof.Machine.execFc05WriteSingleCoil s
  | .fc06WriteSingleRegister => Sys2Proof.Machine.execFc06WriteSingleRegister s
  | .fc07ReadExceptionStatus => Sys2Proof.Machine.execFc07ReadExceptionStatus s
  | .fc08Diagnostics => Sys2Proof.Machine.execFc08Diagnostics s
  | .fc0BGetCommEventCounter => Sys2Proof.Machine.execFc0BGetCommEventCounter s
  | .fc0CGetCommEventLog => Sys2Proof.Machine.execFc0CGetCommEventLog s
  | .fc0FWriteMultipleCoils => Sys2Proof.Machine.execFc0FWriteMultipleCoils s
  | .fc10WriteMultipleRegisters => Sys2Proof.Machine.execFc10WriteMultipleRegisters s
  | .fc11ReportSlaveId => Sys2Proof.Machine.execFc11ReportSlaveId s
  | .fc14ReadFileRecord => Sys2Proof.Machine.execFc14ReadFileRecord s
  | .fc15WriteFileRecord => Sys2Proof.Machine.execFc15WriteFileRecord s
  | .fc16MaskWriteRegister => Sys2Proof.Machine.execFc16MaskWriteRegister s
  | .fc17ReadWriteMultipleRegisters => Sys2Proof.Machine.execFc17ReadWriteMultipleRegisters s
  | .fc18ReadFifoQueue => Sys2Proof.Machine.execFc18ReadFifoQueue s
  | .fcUnknown00 => Sys2Proof.Machine.execFcUnknown00 s
  | .fcUnknown09 => Sys2Proof.Machine.execFcUnknown09 s
  | .fcUnknown0A => Sys2Proof.Machine.execFcUnknown0A s
  | .fcUnknown0D => Sys2Proof.Machine.execFcUnknown0D s
  | .fcUnknown0E => Sys2Proof.Machine.execFcUnknown0E s
  | .fcUnknown1213 code => Sys2Proof.Machine.execFcUnknown1213 code s
  | .fcUnknown19 => Sys2Proof.Machine.execFcUnknown19 s
  | .fcUnknown1A1B code => Sys2Proof.Machine.execFcUnknown1A1B code s
  | .fcUnknown1C1F code => Sys2Proof.Machine.execFcUnknown1C1F code s
  | .fcUnknown203F code => Sys2Proof.Machine.execFcUnknown203F code s
  | .fcUnknown407F code => Sys2Proof.Machine.execFcUnknown407F code s
  | .fcUnknown80FF code => Sys2Proof.Machine.execFcUnknown80FF code s
  | .ascStart => Sys2Proof.Machine.execAscStart s
  | .ascCr => Sys2Proof.Machine.execAscCr s
  | .ascLf => Sys2Proof.Machine.execAscLf s
  | .ascHex07 c => Sys2Proof.Machine.execAscHex07 c s
  | .ascHex89 c => Sys2Proof.Machine.execAscHex89 c s
  | .ascHexA => Sys2Proof.Machine.execAscHexA s
  | .ascHexBC c => Sys2Proof.Machine.execAscHexBC c s
  | .ascHexDE c => Sys2Proof.Machine.execAscHexDE c s
  | .ascHexF => Sys2Proof.Machine.execAscHexF s

end Sys2Proof.Machine
end

