-- ==== Sys2Proof/Machine/HostPort.lean ====
section
/-! DEFINITION. HostPort: the register map and the host's reads and writes of registers and buffer bytes
(spec/10_state.md R40, spec/20_memory.md R63, spec/44_host_control.md R230 to R234). -/

namespace Sys2Proof.Machine

/-- The registers the host can reach (R40). -/
inductive Reg where
  | cfgUnitId | cfgCtrl | cfgReadTimeout | cfgEchoTimeout | cfgOverallTimeout | opUid | opFc
  | opLen | opOff | opByte | opByte2 | opSel | resUid | resFc
  | resLen | resLo | resHi | resCnt | resTok | echoCnt | olen
  | ilen | status | errInfo | cmd | crcLo | crcHi | lrcAcc
  | now
  deriving DecidableEq, Repr

/-- The register map: each register under its number (R40). -/
def regMap : List (Nat × Reg) :=
  [(0x00, .cfgUnitId), (0x01, .cfgCtrl), (0x02, .cfgReadTimeout), (0x03, .cfgEchoTimeout), (0x04, .cfgOverallTimeout), (0x10, .opUid),
   (0x11, .opFc), (0x12, .opLen), (0x13, .opOff), (0x14, .opByte), (0x15, .opByte2), (0x16, .opSel),
   (0x20, .resUid), (0x21, .resFc), (0x22, .resLen), (0x23, .resLo), (0x24, .resHi), (0x25, .resCnt),
   (0x26, .resTok), (0x27, .echoCnt), (0x28, .olen), (0x29, .ilen), (0x30, .status), (0x31, .errInfo),
   (0x32, .cmd), (0x40, .crcLo), (0x41, .crcHi), (0x42, .lrcAcc), (0x50, .now)]

/-- The register of a number in a map. -/
def regIn : List (Nat × Reg) → Nat → Option Reg
  | [], _ => none
  | r :: rest, n => if r.1 = n then some r.2 else regIn rest n

/-- The register of a number, if the map has one (R40). -/
def regAt (n : Nat) : Option Reg := regIn regMap n

/-- The number of `CMD`, at which the host issues operations (R40, R46). -/
def cmdNumber : Nat := 0x32

/-- What a register holds, extended with zeros to the width of the port. -/
def regValue (r : Reg) (s : State) : Word :=
  match r with
  | .cfgUnitId => (readUnitId s).1.setWidth 32
  | .cfgCtrl => s.cfg.ctrl.setWidth 32
  | .cfgReadTimeout => s.cfg.readTimeout.setWidth 32
  | .cfgEchoTimeout => s.cfg.echoTimeout.setWidth 32
  | .cfgOverallTimeout => s.cfg.overallTimeout.setWidth 32
  | .opUid => s.op.uid.setWidth 32
  | .opFc => s.op.fc.setWidth 32
  | .opLen => s.op.len.setWidth 32
  | .opOff => s.op.off.setWidth 32
  | .opByte => s.op.byte.setWidth 32
  | .opByte2 => s.op.byte2.setWidth 32
  | .opSel => s.op.sel.setWidth 32
  | .resUid => s.res.uid.setWidth 32
  | .resFc => s.res.fc.setWidth 32
  | .resLen => s.res.len.setWidth 32
  | .resLo => s.res.lo.setWidth 32
  | .resHi => s.res.hi.setWidth 32
  | .resCnt => s.res.cnt
  | .resTok => s.res.tok.setWidth 32
  | .echoCnt => s.res.echoCnt
  | .olen => s.olen.setWidth 32
  | .ilen => s.ilen.setWidth 32
  | .status => s.status.setWidth 32
  | .errInfo => s.errInfo.setWidth 32
  | .cmd => s.cmd.setWidth 32
  | .crcLo => s.crcLo.setWidth 32
  | .crcHi => s.crcHi.setWidth 32
  | .lrcAcc => s.lrcAcc.setWidth 32
  | .now => s.time.now

/-- The width of a register whose value is unspecified while an operation runs, and `none` for the others, which read
their true value at all times (R232, U3). -/
def unsettledWidth : Reg → Option Nat
  | .cfgUnitId => none
  | .cfgCtrl => none
  | .cfgReadTimeout => none
  | .cfgEchoTimeout => none
  | .cfgOverallTimeout => none
  | .opUid => none
  | .opFc => none
  | .opLen => none
  | .opOff => none
  | .opByte => none
  | .opByte2 => none
  | .opSel => none
  | .resUid => some 8
  | .resFc => some 8
  | .resLen => some 17
  | .resLo => some 8
  | .resHi => some 8
  | .resCnt => some 32
  | .resTok => some 2
  | .echoCnt => some 32
  | .olen => some 17
  | .ilen => some 17
  | .status => none
  | .errInfo => none
  | .cmd => none
  | .crcLo => some 8
  | .crcHi => some 8
  | .lrcAcc => some 8
  | .now => none

/-- The state after a read whose value the spec leaves open: a free value of `w` bits (U3; log entry 4). -/
def readFree (w : Nat) (s : State) : State :=
  { (draw s).2 with readData := ((draw s).1.setWidth w).setWidth 32 }

/-- The state after a read of the true value of register `r`. A read of `CFG_UNIT_ID` before its first write draws
(R41, R56). -/
def readTrue (r : Reg) (s : State) : State :=
  { (if r = .cfgUnitId then (readUnitId s).2 else s) with readData := regValue r s }

/-- The host reads register `r` (R232). -/
def readRegister (r : Reg) (s : State) : State :=
  match unsettledWidth r with
  | some w => if statusBusy s.status then readFree w s else readTrue r s
  | none   => readTrue r s

/-- The host reads register number `n`; a number outside the map reads zero (R40). -/
def hostRead (n : Nat) (s : State) : State :=
  match regAt n with
  | some r => readRegister r s
  | none   => { s with readData := 0 }

/-- An idle host write of `v` to a register other than `CMD`: the value is truncated to the register's width, and a
read-only register ignores it (R40, R42, R234). -/
def writeRegister (r : Reg) (v : Word) (s : State) : State :=
  match r with
  | .cfgUnitId         => { s with cfg.unitId := v.setWidth 8, unitIdWritten := true }
  | .cfgCtrl           => { s with cfg.ctrl := ctrlStored (v.setWidth 8) }
  | .cfgReadTimeout    => { s with cfg.readTimeout := v.setWidth 16 }
  | .cfgEchoTimeout    => { s with cfg.echoTimeout := v.setWidth 16 }
  | .cfgOverallTimeout => { s with cfg.overallTimeout := v.setWidth 16 }
  | .opUid             => { s with op.uid := v.setWidth 8 }
  | .opFc              => { s with op.fc := v.setWidth 8 }
  | .opLen             => { s with op.len := v.setWidth 17 }
  | .opOff             => { s with op.off := v.setWidth 17 }
  | .opByte            => { s with op.byte := v.setWidth 8 }
  | .opByte2           => { s with op.byte2 := v.setWidth 8 }
  | .opSel             => { s with op.sel := v.setWidth 1 }
  | .status            => { s with status := statusClear (v.setWidth 8) s.status }
  | .resUid | .resFc | .resLen | .resLo | .resHi | .resCnt | .resTok | .echoCnt | .olen | .ilen => s
  | .errInfo | .cmd | .crcLo | .crcHi | .lrcAcc | .now => s

/-- A host write while busy: nothing changes but `STATUS.HOST_VIOL` (R35, R233; log entry 11). -/
def hostViolation (s : State) : State := { s with status := statusSetHostViol s.status }

/-- The host writes `v` to register number `n`, not `CMD` while idle; a number outside the map is ignored (R40, R233).
`CMD` while idle is the sequencer's (R231). -/
def hostWriteRegister (n : Nat) (v : Word) (s : State) : State :=
  match regAt n with
  | none   => s
  | some r => if statusBusy s.status then hostViolation s else writeRegister r v s

/-- The host writes byte `b` at `SPACE:i`. A write to IBUF is ignored; while busy either sets `HOST_VIOL` (R35, R63). -/
def hostStore (sp : Space) (i : Nat) (b : Byte) (s : State) : Result :=
  if statusBusy s.status then .next (hostViolation s)
  else if i < s.params.bufSize then
    match sp with
    | .obuf => .next (store .obuf i b s)
    | .ibuf => .next s
  else .fault .bufferIndexOutside

/-- The host reads the byte at `SPACE:i`; while busy the value is unspecified (R63, U1, U3). -/
def hostLoad (sp : Space) (i : Nat) (s : State) : Result :=
  if i < s.params.bufSize then
    if statusBusy s.status then .next (readFree 8 s)
    else .next { (fetch sp i s).2 with readData := (fetch sp i s).1.setWidth 32 }
  else .fault .bufferIndexOutside

end Sys2Proof.Machine
end

