-- ==== Sys2Proof/Machine/Sequencer.lean ====
section
/-! DEFINITION. Sequencer: command issue, the sequencer's turns, and the moves of the host, the line and the time base
(spec/00_scope.md R16, spec/10_state.md R31, R32, spec/20_memory.md R64 to R67, spec/44_host_control.md R231,
spec/70_reset_and_hazards.md R291). -/

namespace Sys2Proof.Machine

/-! ### Fetching a word and executing it -/

/-- The write of `v` to `CMD` while idle: the entry, then the operation in the same step (R231). -/
def issue (v : Byte) (s : State) : Result :=
  match decodeByte .cmd8 v with
  | .ok i    => exec i (commandEntry v s)
  | .error _ => badCommand v (commandEntry v s)

/-- A character has been taken by an ASCII reader: the instruction it decodes to is executed, and a character of no
row is taken as it is (R92, R124). -/
def character (c : Byte) (s : State) : Result :=
  match decodeByte .ascChar c with
  | .ok i    => exec i s
  | .error _ => takeCharacter c s

/-- A function code has been taken by the RTU reader: the instruction it decodes to is executed (R110). -/
def functionCode (f : Byte) (s : State) : Result :=
  match decodeByte .rtuFc f with
  | .ok i    => exec i s
  | .error _ => takeFunctionCode f s

/-! ### The sequencer's turn -/

/-- One atomic step of the sequencer (R31, R32). -/
def turn (s : State) : Result :=
  match s.seq with
  | .idle           => .next s
  | .exec           => .fault .execObserved
  | .xRead          => readTurn rxReadByte s
  | .xTok1          => readTurn character s
  | .xTok2 _        => readTurn character s
  | .xFlush n       => flushTurn .xFlush (fun k t => complete { t with res.cnt := BitVec.ofNat 32 k }) n s
  | .xEcho got want => echoTurn .xEcho got want s
  | .aSeek          => readTurnA character s
  | .aHi            => readTurnA character s
  | .aLo _          => readTurnA character s
  | .aLf            => readTurnA character s
  | .rUid           => readTurn rtuUnitId s
  | .rFc            => readTurn functionCode s
  | .rCnt wide      => readTurn (rtuCount wide) s
  | .rCnt2 high     => readTurn (rtuCountLow high) s
  | .rBody more     => readTurn (rtuBodyByte more) s
  | .wFlush n       => flushTurn .wFlush rtuFlushed n s
  | .wEcho got want => echoTurn .wEcho got want s

/-- The sequencer can take a turn: an operation runs, and it is not asleep (R153). -/
def runnable (s : State) : Bool :=
  decide (s.seq ≠ .idle) && (!s.sleeping || decide (s.time.now = s.time.tNext))

/-- The sequencer is in a flush, whose turns time may pass between (R31). -/
def flushing (s : State) : Bool :=
  match s.seq with
  | .xFlush _ | .wFlush _ => true
  | .idle | .exec | .xRead | .xTok1 | .xTok2 _ | .xEcho _ _ | .aSeek | .aHi | .aLo _ | .aLf | .rUid | .rFc | .rCnt _
  | .rCnt2 _ | .rBody _ | .wEcho _ _ => false

/-- The sequencer's turn comes before the next millisecond (R153, R154; log entry 3). -/
def due (s : State) : Bool := runnable s && !flushing s

/-- What happens when no other agent acts: the sequencer's turn, or else a millisecond passes (log entry 2). -/
def advance (s : State) : Result := if runnable s then turn s else .next (tick s)

/-! ### The other agents -/

/-- The host writes `v` to register number `n` (R40, R231, R233). -/
def hostWrite (n : Nat) (v : Word) (s : State) : Result :=
  if n = cmdNumber ∧ statusBusy s.status = false then issue (v.setWidth 8) s
  else .next (hostWriteRegister n v s)

/-- The line appends a byte to RX (R66). -/
def lineRx (b : Byte) (s : State) : State := { s with rx := s.rx ++ [b] }

/-- The line removes the head of TX, if there is one (R66). -/
def lineTx (s : State) : State := { s with tx := s.tx.tail }

/-- An echoing line moves the head of TX to the tail of RX, if there is one (R67). -/
def lineEcho (s : State) : State := { s with tx := s.tx.tail, rx := s.rx ++ s.tx.take 1 }

/-- The reset input (R55, R291). -/
def resetInput (s : State) : State := State.resetOver s.params s.rx s.tx s.readData s.draws s.moves

/-- The head of the list of moves, `rest` being what follows it. A tick waits for a due turn, and the host's wait for
completion lets the block and the time base go on (log entries 2, 3). -/
def moveStep (m : Move) (rest : List Move) (s : State) : Result :=
  match m with
  | .turn             => if runnable s then turn { s with moves := rest } else .next { s with moves := rest }
  | .tick             => if due s then turn s else .next (tick { s with moves := rest })
  | .lineRx b         => .next (lineRx b { s with moves := rest })
  | .lineTx           => .next (lineTx { s with moves := rest })
  | .lineEcho         => .next (lineEcho { s with moves := rest })
  | .hostWrite n v    => hostWrite n v { s with moves := rest }
  | .hostRead n       => .next (hostRead n { s with moves := rest })
  | .hostStore sp i b => hostStore sp i b { s with moves := rest }
  | .hostLoad sp i    => hostLoad sp i { s with moves := rest }
  | .hostWait         => if statusDone s.status then .next { s with moves := rest } else advance s
  | .reset            => .next (resetInput { s with moves := rest })

/-- One step of the system: the next move, or what happens when none is listed (log entry 2). -/
def systemStep (s : State) : Result :=
  match s.moves with
  | []        => advance s
  | m :: rest => moveStep m rest s

/-- Place the write of a command so that the next step issues it: it becomes the next move, and the block is idle. -/
def placeCommand (v : Byte) (s : State) : State :=
  { s with moves := .hostWrite cmdNumber (v.setWidth 32) :: s.moves, seq := .idle, sleeping := false
           status := s.status &&& 0xFE }

/-- Place an instruction word: its one byte is a command. A word of no byte places nothing. -/
def placeWord (bytes : List Byte) (s : State) : State :=
  match bytes with
  | []     => s
  | b :: _ => placeCommand b s

end Sys2Proof.Machine
end

