-- ==== Sys2Proof/Machine/Step.lean ====
section
/-! DEFINITION. Step: the step function and the placing of a word to fetch. -/

namespace Sys2Proof.Machine

/-- One step: one action of one agent (spec/00_scope.md R16; log entry 2). -/
def step (s : State) : Host.Outcome State Fault Refusal := systemStep s

/-- `s` with the word written to `CMD` by the host's next move, which is how the block fetches an operation (R231;
log entry 9). -/
def State.withFetchWord (s : State) (nbits w : Nat) : State :=
  placeWord (tableBytes ((nbits + 7) / 8) nbits w) s

end Sys2Proof.Machine
end

