-- ==== Sys2Proof/Safety.lean ====
section
/-! DEFINITION. Safety: the terms the claims are stated in: ends of operations, frames, runs of turns, the bitwise
checksum definitions, and the invariants of the block (spec/10_state.md R30, R33, R36, spec/20_memory.md R62,
spec/40_checksum.md R133, R143, spec/60_exceptions.md R270, R271). -/

namespace Sys2Proof.Machine

/-! ### Outcomes -/

/-- The outcome is a next state with property `P`. -/
def Answers (r : Result) (P : State → Prop) : Prop := ∃ t, r = .next t ∧ P t

/-- Executing `i` in `s` answers a next state with property `P`. -/
def Runs (i : Instr) (s : State) (P : State → Prop) : Prop := Answers (exec i s) P

/-- `n` turns of the sequencer, one after the other. -/
def turns : Nat → State → Result
  | 0, s => .next s
  | n + 1, s =>
    match turn s with
    | .next t    => turns n t
    | .fault f   => .fault f
    | .refused r => .refused r

/-- `n` steps of the system. -/
def steps (n : Nat) (s : State) : Result := Sys2Proof.core.run n s

/-! ### The end of an operation -/

/-- From `s` to `t` the operation has ended with code `err` and detail `info`: done, idle, the sticky bits as they
were (R270, R271). -/
def EndsWith (err : BitVec 4) (info : Half) (s t : State) : Prop :=
  statusErr t.status = err ∧ statusDone t.status = true ∧ statusBusy t.status = false ∧
  statusEchoShort t.status = statusEchoShort s.status ∧ statusHostViol t.status = statusHostViol s.status ∧
  t.errInfo = info ∧ t.seq = .idle

/-- The operation goes on: `STATUS` and `ERR_INFO` are as they were and the sequencer waits in `q`, awake. -/
def WaitsIn (q : Seq) (s t : State) : Prop :=
  t.status = s.status ∧ t.errInfo = s.errInfo ∧ t.seq = q ∧ t.sleeping = false

/-! ### Frames -/

/-- The parameters and what the host alone writes: configuration, operands and `CMD` (R23, R79). -/
def SameHostSide (s t : State) : Prop :=
  t.params = s.params ∧ t.cfg = s.cfg ∧ t.unitIdWritten = s.unitIdWritten ∧ t.op = s.op ∧ t.cmd = s.cmd

/-- Every byte of a buffer reads as before. -/
def SameBuffer (sp : Space) (s t : State) : Prop := ∀ i, byteAt sp i t = byteAt sp i s

/-- The checksum registers are as before. -/
def SameSums (s t : State) : Prop := t.crcLo = s.crcLo ∧ t.crcHi = s.crcHi ∧ t.lrcAcc = s.lrcAcc

/-- The CRC register is as before. -/
def SameCrc (s t : State) : Prop := t.crcLo = s.crcLo ∧ t.crcHi = s.crcHi

/-- The frame lengths are as before. -/
def SameLengths (s t : State) : Prop := t.olen = s.olen ∧ t.ilen = s.ilen

/-- The queues are as before. -/
def SameLine (s t : State) : Prop := t.rx = s.rx ∧ t.tx = s.tx

/-- The environment the model records is as before: the moves to come and the host's read data. -/
def SameEnv (s t : State) : Prop := t.moves = s.moves ∧ t.readData = s.readData

/-- Everything but the checksum registers, the result registers, `STATUS`, `ERR_INFO` and the sequencer is as before:
both buffers byte by byte, the queues, the time, the lengths, and what the host and the environment hold. -/
def SameRest (s t : State) : Prop :=
  SameHostSide s t ∧ SameBuffer .obuf s t ∧ SameBuffer .ibuf s t ∧ SameLengths s t ∧ SameLine s t ∧
  t.time = s.time ∧ SameEnv s t

/-- `bs` is what reading `n` bytes of a space from index `i` on may give: a written byte as it stands, any value for a
byte nothing has written (R56, U1). -/
def ReadsAs (sp : Space) (i n : Nat) (s : State) (bs : List Byte) : Prop :=
  bs.length = n ∧ ∀ k b, k < n → byteAt sp (i + k) s = some b → bs[k]? = some b

/-- A reader goes on: everything but `ILEN`, `T0_READ` and the sequencer is as before. -/
def SameWhileReading (s t : State) : Prop :=
  SameHostSide s t ∧ SameBuffer .obuf s t ∧ SameBuffer .ibuf s t ∧ SameSums s t ∧ t.res = s.res ∧ t.olen = s.olen ∧
  SameLine s t ∧ t.time = { s.time with t0Read := s.time.now } ∧ SameEnv s t

/-- The ASCII reader goes back to `SEEK`: nothing is accumulated, nothing is reported (R185, R273). -/
def Resyncs (s t : State) : Prop := WaitsIn .aSeek s t ∧ t.ilen = 0 ∧ SameWhileReading s t

/-- The operation has ended on a character: everything but `RES_TOK` and `RES_LO` is as before. -/
def TokenEnds (err : BitVec 4) (info : Half) (tok : BitVec 2) (lo : Byte) (s t : State) : Prop :=
  EndsWith err info s t ∧ SameSums s t ∧ t.res = { s.res with tok := tok, lo := lo } ∧ SameRest s t

/-- A byte has been appended at `IBUF:ILEN`, and nothing else of IBUF or OBUF has changed (R210). -/
def Appends (b : Byte) (s t : State) : Prop :=
  t.ilen = s.ilen + 1 ∧ SameBuffer .obuf s t ∧
  ∀ j, byteAt .ibuf j t = if j = s.ilen.toNat then some b else byteAt .ibuf j s

/-- The RTU reader goes on in `q` after a byte: `T0_READ` is now. -/
def ReadsOn (q : Seq) (s t : State) : Prop :=
  WaitsIn q s t ∧ SameHostSide s t ∧ SameSums s t ∧ t.res = s.res ∧ t.olen = s.olen ∧
  t.time = { s.time with t0Read := s.time.now } ∧ SameEnv s t

/-- The RTU reader has failed after a byte: no result register is written (R274). -/
def ReadFails (err : BitVec 4) (info : Half) (s t : State) : Prop :=
  EndsWith err info s t ∧ SameHostSide s t ∧ SameSums s t ∧ t.res = s.res ∧ t.olen = s.olen ∧ t.time = s.time ∧ SameEnv s t

/-- `rem` bytes of an RTU frame remain after `len` bytes: the reader waits for them if the frame fits IBUF, and else
reports `TooLong` with the frame's length, saturated (R210, R220). -/
def LengthKnown (len rem : Nat) (s t : State) : Prop :=
  if len + rem ≤ s.params.bufSize then ReadsOn (.rBody (rem - 1)) s t
  else ReadFails 4 (BitVec.ofNat 16 (min (len + rem) 65535)) s t

/-- Every byte of `bs` stands written in a space from index 0 on. -/
def Holds (sp : Space) (bs : List Byte) (s : State) : Prop := ∀ k b, bs[k]? = some b → byteAt sp k s = some b

/-! ### Rows of the opcode table -/

/-- The illegal command codes (R122). -/
def illegalRow (i : Instr) : Bool :=
  match i with
  | .illegal09 | .illegal0A0B _ | .illegal0C0F _ | .illegal19 | .illegal1A1B _ | .illegal1C1F _ => true
  | .illegal2427 _ | .illegal282F _ | .illegal303F _ | .illegal407F _ | .illegal80FF _ => true
  | _ => false

/-- The hex characters (R91). -/
def hexRow (i : Instr) : Bool :=
  match i with
  | .ascHex07 _ | .ascHex89 _ | .ascHexA | .ascHexBC _ | .ascHexDE _ | .ascHexF => true
  | _ => false

/-! ### The checksums as the spec defines them -/

/-- The sum of a byte sequence as a number (R133). -/
def byteSum (bs : List Byte) : Nat := (bs.map BitVec.toNat).sum

/-- The two characters of each byte, high nibble first (R90, R100). -/
def hexText (bs : List Byte) : List Byte := bs.flatMap (fun b => [hexEncHi b, hexEncLo b])

/-- An ASCII frame on the line: start token, the bytes in hex, end token (R90). -/
def ascText (bs : List Byte) : List Byte := [0x3A] ++ hexText bs ++ [0x0D, 0x0A]

/-- One bit of the bitwise CRC (R143). -/
def crcShift (crc : Half) : Half := if crc.getLsbD 0 then (crc >>> 1) ^^^ 0xA001 else crc >>> 1

/-- `n` bits of the bitwise CRC. -/
def crcShifts : Nat → Half → Half
  | 0, crc => crc
  | n + 1, crc => crcShifts n (crcShift crc)

/-- `CrcBit(crc, b)` (R143). -/
def crcBit (crc : Half) (b : Byte) : Half := crcShifts 8 (crc ^^^ b.setWidth 16)

/-- The LRC8 of a byte sequence (R133). -/
def lrc8Of (bs : List Byte) : Byte := BitVec.ofNat 8 ((256 - byteSum bs % 256) % 256)

/-- The CRC16 of a byte sequence, bit by bit from `0xFFFF` (R143). -/
def crc16Of (bs : List Byte) : Half := bs.foldl crcBit 0xFFFF

/-! ### Invariants -/

/-- The parameters are in the ranges of R6. -/
def paramsOk (p : Params) : Bool :=
  decide (10 ≤ p.bufSize) && decide (p.bufSize ≤ 65541) && decide (1 ≤ p.flushMax) && decide (1 ≤ p.flushWindowMs)

/-- A buffer's content is in canonical form and inside the buffer (R60, R62). -/
def memoryOk (size : Nat) (m : Memory) : Bool := Memory.wf m && m.all (fun c => decide (c.1 < size))

/-- Both buffers are in canonical form and inside their size. -/
abbrev BuffersOk (s : State) : Prop :=
  memoryOk s.params.bufSize s.obuf = true ∧ memoryOk s.params.bufSize s.ibuf = true

/-- `STATUS.BUSY` is 0 exactly when `SEQ` is `S_IDLE`; while busy nothing is reported; an error code is one of R260,
and without an error there is no detail; `SEQ` is never seen at `S_EXEC` (R30, R31, R33, R36, R260). -/
abbrev StatusOk (s : State) : Prop :=
  statusBusy s.status = decide (s.seq ≠ .idle) ∧
  (statusBusy s.status = true → statusDone s.status = false ∧ statusErr s.status = 0) ∧
  statusErr s.status ≤ 8 ∧
  (statusErr s.status = 0 → s.errInfo = 0) ∧
  s.seq ≠ .exec

/-- The sequencer sleeps only in a read or an echo discard, and never past its wake time, which lies at most
`POLL_MS` ahead (R153). -/
abbrev SleepOk (s : State) : Prop :=
  s.sleeping = true → s.seq ≠ .idle ∧ s.seq ≠ .exec ∧ flushing s = false ∧
    (s.time.tNext - s.time.now).toNat ≤ Config.pollMs.toNat

/-- Reserved register bits read as zero, and `RES_TOK` is never 3 (R24, R42, R123). -/
abbrev FieldsOk (s : State) : Prop := s.cfg.ctrl &&& 0xFC = 0 ∧ s.res.tok ≠ 3

/-- What each value of `SEQ` says of its held values and of `ILEN` (R31, R62, R185, R200, R210). -/
def sequencerOk (s : State) : Bool :=
  match s.seq with
  | .idle | .xRead | .xTok1 | .aHi | .aLf => true
  | .exec           => false
  | .xTok2 first    => decide (first = charCr) || isHex first
  | .xFlush n       => decide (n ≤ s.params.flushMax)
  | .xEcho got want => decide (got ≤ want)
  | .aSeek          => decide (s.ilen = 0)
  | .aLo high       => isHex high
  | .rUid           => decide (s.ilen = 0)
  | .rFc            => decide (s.ilen = 1)
  | .rCnt _         => decide (s.ilen = 2)
  | .rCnt2 _        => decide (s.ilen = 3)
  | .rBody more     => decide (2 ≤ s.ilen.toNat) && decide (5 ≤ s.ilen.toNat + more + 1) &&
                       decide (s.ilen.toNat + more + 1 ≤ s.params.bufSize)
  | .wFlush n       => decide (n ≤ s.params.flushMax) && frameFits 4 s
  | .wEcho got want => decide (got ≤ want)

/-- The frame lengths fit the buffers, and the sequencer's held values are in range. -/
abbrev FrameOk (s : State) : Prop :=
  paramsOk s.params = true ∧ s.olen.toNat ≤ s.params.bufSize ∧ s.ilen.toNat ≤ s.params.bufSize ∧ sequencerOk s = true

/-- The invariant of the block. -/
abbrev BlockInv (s : State) : Prop := BuffersOk s ∧ StatusOk s ∧ SleepOk s ∧ FieldsOk s ∧ FrameOk s

/-- The next move is a host access to a buffer byte outside the buffer, for which the spec defines no behaviour
(R62). A store while busy is dropped before its index is looked at (R233). -/
def accessOutside (s : State) : Bool :=
  match s.moves with
  | .hostStore _ i _ :: _ => !statusBusy s.status && decide (s.params.bufSize ≤ i)
  | .hostLoad _ i :: _    => decide (s.params.bufSize ≤ i)
  | _                     => false

end Sys2Proof.Machine
end

