-- ==== Sys2Proof/Certificates/Slice0/Obligations.lean ====
section
/-! DEFINITION. Obligations: what the provers are asked to prove of the block. -/

open Sys2Proof Sys2Proof.Machine

/-! ### Checksum operations -/

/-- R130: `LRC_INIT` clears `LRC_ACC` and changes nothing else. -/
def Obligations.LrcInitClearsAccumulator : Prop :=
  decodeByte .cmd8 0x01 = .ok .lrcInit ∧
  ∀ s, Runs .lrcInit s fun t =>
    t.lrcAcc = 0 ∧ EndsWith 0 0 s t ∧ SameCrc s t ∧ t.res = s.res ∧ SameRest s t

/-- R131: `LRC_UPDATE` adds `OP_BYTE` modulo 256. -/
def Obligations.LrcUpdateAddsByte : Prop :=
  decodeByte .cmd8 0x02 = .ok .lrcUpdate ∧
  ∀ s, Runs .lrcUpdate s fun t =>
    t.lrcAcc.toNat = (s.lrcAcc.toNat + s.op.byte.toNat) % 256 ∧
    EndsWith 0 0 s t ∧ SameCrc s t ∧ t.res = s.res ∧ SameRest s t

/-- R132: `LRC_READ` returns the two's-complement negation of the sum and keeps the sum. -/
def Obligations.LrcReadNegatesSum : Prop :=
  decodeByte .cmd8 0x03 = .ok .lrcRead ∧
  ∀ s, Runs .lrcRead s fun t =>
    t.res = { s.res with lo := BitVec.ofNat 8 ((256 - s.lrcAcc.toNat) % 256) } ∧
    EndsWith 0 0 s t ∧ SameSums s t ∧ SameRest s t

/-- R133, R134: `LRC_RANGE` forms the sum and the LRC8 of the bytes of the range; a range that leaves the buffer ends
with `BadOperand` and changes nothing. -/
def Obligations.LrcRangeSumsRange : Prop :=
  decodeByte .cmd8 0x04 = .ok .lrcRange ∧
  ∀ s,
    (s.op.off.toNat + s.op.len.toNat ≤ s.params.bufSize →
      ∃ bs, ReadsAs (if s.op.sel = 0 then .obuf else .ibuf) s.op.off.toNat s.op.len.toNat s bs ∧
        Runs .lrcRange s fun t =>
          t.lrcAcc.toNat = byteSum bs % 256 ∧ t.res = { s.res with lo := lrc8Of bs } ∧
          EndsWith 0 0 s t ∧ SameCrc s t ∧ SameRest s t) ∧
    (s.params.bufSize < s.op.off.toNat + s.op.len.toNat →
      Runs .lrcRange s fun t => EndsWith 6 0 s t ∧ SameSums s t ∧ t.res = s.res ∧ SameRest s t)

/-- R137: `CRC_INIT` sets both halves of the CRC register to `0xFF`. -/
def Obligations.CrcInitSetsOnes : Prop :=
  decodeByte .cmd8 0x05 = .ok .crcInit ∧
  ∀ s, Runs .crcInit s fun t =>
    t.crcLo = 0xFF ∧ t.crcHi = 0xFF ∧ EndsWith 0 0 s t ∧ t.lrcAcc = s.lrcAcc ∧ t.res = s.res ∧ SameRest s t

/-- R138, R139, R143: `CRC_UPDATE` works `OP_BYTE` into the CRC register; by the bitwise definition. -/
def Obligations.CrcUpdateIsBitwise : Prop :=
  decodeByte .cmd8 0x06 = .ok .crcUpdate ∧
  ∀ s, Runs .crcUpdate s fun t =>
    t.crcHi ++ t.crcLo = crcBit (s.crcHi ++ s.crcLo) s.op.byte ∧
    EndsWith 0 0 s t ∧ t.lrcAcc = s.lrcAcc ∧ t.res = s.res ∧ SameRest s t

/-- R140: `CRC_READ` returns the CRC register and does not change it. -/
def Obligations.CrcReadReturnsRegister : Prop :=
  decodeByte .cmd8 0x07 = .ok .crcRead ∧
  ∀ s, Runs .crcRead s fun t =>
    t.res = { s.res with lo := s.crcLo, hi := s.crcHi } ∧ EndsWith 0 0 s t ∧ SameSums s t ∧ SameRest s t

/-- R141, R142, R143: `CRC_RANGE` forms the CRC16 of the bytes of the range, whatever the register held; a range that
leaves the buffer ends with `BadOperand` and changes nothing. -/
def Obligations.CrcRangeIsBitwise : Prop :=
  decodeByte .cmd8 0x08 = .ok .crcRange ∧
  ∀ s,
    (s.op.off.toNat + s.op.len.toNat ≤ s.params.bufSize →
      ∃ bs, ReadsAs (if s.op.sel = 0 then .obuf else .ibuf) s.op.off.toNat s.op.len.toNat s bs ∧
        Runs .crcRange s fun t =>
          t.crcHi ++ t.crcLo = crc16Of bs ∧ t.res = { s.res with lo := t.crcLo, hi := t.crcHi } ∧
          EndsWith 0 0 s t ∧ t.lrcAcc = s.lrcAcc ∧ SameRest s t) ∧
    (s.params.bufSize < s.op.off.toNat + s.op.len.toNat →
      Runs .crcRange s fun t => EndsWith 6 0 s t ∧ SameSums s t ∧ t.res = s.res ∧ SameRest s t)

/-- R135, R136, R138: each table entry is the bitwise CRC of its index from zero, and the table step on the two
halves is the bitwise step on the 16-bit value. -/
def Obligations.TableStepIsBitwise : Prop :=
  (∀ i, tableAt tblHi i ++ tableAt tblLo i = crcBit 0 i) ∧
  ∀ lo hi b, (crcStep (lo, hi) b).2 ++ (crcStep (lo, hi) b).1 = crcBit (hi ++ lo) b

/-- R146: a byte sequence followed by its own checksum has residue zero. -/
def Obligations.ChecksumResidues : Prop :=
  (∀ bs, byteSum (bs ++ [lrcOf (sumBytes bs)]) % 256 = 0 ∧
    lrcOf (sumBytes (bs ++ [lrcOf (sumBytes bs)])) = 0) ∧
  ∀ bs, crcBytes (bs ++ [(crcBytes bs).1, (crcBytes bs).2]) = (0, 0)

/-! ### Adapter operations -/

/-- R150, R161: `RX_AVAIL` counts the bytes in RX. -/
def Obligations.RxAvailCountsQueue : Prop :=
  decodeByte .cmd8 0x10 = .ok .rxAvail ∧
  ∀ s, Runs .rxAvail s fun t =>
    t.res = { s.res with cnt := BitVec.ofNat 32 (min s.rx.length (2 ^ 32 - 1)) } ∧
    EndsWith 0 0 s t ∧ SameSums s t ∧ SameRest s t

/-- R154, R162: `RX_READ` begins a timed read; with a byte in RX the next turn returns it, and with none it times out
at once if its bound is 0. -/
def Obligations.RxReadReturnsByte : Prop :=
  decodeByte .cmd8 0x11 = .ok .rxRead ∧
  ∀ s, Runs .rxRead s fun t =>
    WaitsIn .xRead s t ∧ t.ilen = s.ilen ∧ SameWhileReading s t ∧
    (∀ b rest, s.rx = b :: rest → Answers (turn t) fun u =>
      u.res = { s.res with lo := b } ∧ u.rx = rest ∧ u.tx = s.tx ∧ EndsWith 0 0 s u ∧ SameSums s u ∧ SameHostSide s u ∧
      SameLengths s u ∧ SameBuffer .obuf s u ∧ SameBuffer .ibuf s u ∧ u.time = t.time ∧ SameEnv s u) ∧
    (s.rx = [] → s.cfg.readTimeout = 0 → Answers (turn t) fun u =>
      EndsWith 1 0 s u ∧ SameSums s u ∧ u.res = s.res ∧ SameRest t u)

/-- R158, R163: `ASC_RX_TOKEN` reads one token; on a bad character it ends with `BadHex`, the character consumed and
no result written. -/
def Obligations.TokenReaderReadsTokens : Prop :=
  decodeByte .cmd8 0x12 = .ok .ascRxToken ∧
  ∀ s, Runs .ascRxToken s fun t =>
    WaitsIn .xTok1 s t ∧ t.ilen = s.ilen ∧ SameWhileReading s t ∧
    (∀ rest, s.rx = 0x3A :: rest → Answers (turn t) fun u =>
      u.rx = rest ∧ u.res = { s.res with tok := 1, lo := 0 } ∧ EndsWith 0 0 s u) ∧
    (∀ rest, s.rx = 0x0D :: 0x0A :: rest → Answers (turns 2 t) fun u =>
      u.rx = rest ∧ u.res = { s.res with tok := 2, lo := 0 } ∧ EndsWith 0 0 s u) ∧
    (∀ c1 c2 rest, s.rx = c1 :: c2 :: rest → isHex c1 = true → isHex c2 = true → Answers (turns 2 t) fun u =>
      u.rx = rest ∧ u.res = { s.res with tok := 0, lo := BitVec.ofNat 8 (16 * hexVal c1 + hexVal c2) } ∧
      EndsWith 0 0 s u) ∧
    (∀ c rest, s.rx = c :: rest → c ≠ 0x3A → c ≠ 0x0D → isHex c = false → Answers (turn t) fun u =>
      u.rx = rest ∧ u.res = s.res ∧ EndsWith 8 (c.setWidth 16) s u) ∧
    (∀ c rest, s.rx = 0x0D :: c :: rest → c ≠ 0x0A → Answers (turns 2 t) fun u =>
      u.rx = rest ∧ u.res = s.res ∧ EndsWith 8 (c.setWidth 16) s u) ∧
    (∀ c1 c2 rest, s.rx = c1 :: c2 :: rest → isHex c1 = true → isHex c2 = false → Answers (turns 2 t) fun u =>
      u.rx = rest ∧ u.res = s.res ∧ EndsWith 8 (c2.setWidth 16) s u)

/-- R164: `TX_WRITE` appends the bytes of the range in OBUF to TX; out of range, `BadOperand` and nothing pushed. -/
def Obligations.TxWritePushesRange : Prop :=
  decodeByte .cmd8 0x13 = .ok .txWrite ∧
  ∀ s,
    (s.op.off.toNat + s.op.len.toNat ≤ s.params.bufSize →
      ∃ bs, ReadsAs .obuf s.op.off.toNat s.op.len.toNat s bs ∧
        Runs .txWrite s fun t =>
          t.tx = s.tx ++ bs ∧ t.rx = s.rx ∧ t.res = { s.res with cnt := BitVec.ofNat 32 s.op.len.toNat } ∧
          EndsWith 0 0 s t ∧ SameSums s t ∧ SameHostSide s t ∧ SameLengths s t ∧ SameBuffer .obuf s t ∧
          SameBuffer .ibuf s t ∧ t.time = s.time ∧ SameEnv s t) ∧
    (s.params.bufSize < s.op.off.toNat + s.op.len.toNat →
      Runs .txWrite s fun t => EndsWith 6 0 s t ∧ SameSums s t ∧ t.res = s.res ∧ SameRest s t)

/-- R165: `ASC_TX_WRITE` appends two hex characters for each byte of the range in OBUF, high nibble first. -/
def Obligations.AscTxWritePushesHexPairs : Prop :=
  decodeByte .cmd8 0x14 = .ok .ascTxWrite ∧
  ∀ s,
    (s.op.off.toNat + s.op.len.toNat ≤ s.params.bufSize →
      ∃ bs, ReadsAs .obuf s.op.off.toNat s.op.len.toNat s bs ∧
        Runs .ascTxWrite s fun t =>
          t.tx = s.tx ++ hexText bs ∧ t.rx = s.rx ∧
          t.res = { s.res with cnt := BitVec.ofNat 32 (2 * s.op.len.toNat) } ∧
          EndsWith 0 0 s t ∧ SameSums s t ∧ SameHostSide s t ∧ SameLengths s t ∧ SameBuffer .obuf s t ∧
          SameBuffer .ibuf s t ∧ t.time = s.time ∧ SameEnv s t) ∧
    (s.params.bufSize < s.op.off.toNat + s.op.len.toNat →
      Runs .ascTxWrite s fun t => EndsWith 6 0 s t ∧ SameSums s t ∧ t.res = s.res ∧ SameRest s t)

/-- R159, R166: `RX_FLUSH` begins a flush; with no arrivals and no time passing, its turns drain what is in RX up to
`FLUSH_MAX` bytes and report the count. -/
def Obligations.RxFlushDrainsQueue : Prop :=
  decodeByte .cmd8 0x15 = .ok .rxFlush ∧
  ∀ s, Runs .rxFlush s fun t =>
    WaitsIn (.xFlush 0) s t ∧ t.time = { s.time with t0Phase := s.time.now } ∧ t.res = s.res ∧ SameLine s t ∧
    SameSums s t ∧ SameHostSide s t ∧ SameLengths s t ∧ SameBuffer .obuf s t ∧ SameBuffer .ibuf s t ∧ SameEnv s t ∧
    (1 ≤ s.params.flushWindowMs → Answers (turns (min s.rx.length s.params.flushMax + 1) t) fun u =>
      u.rx = s.rx.drop (min s.rx.length s.params.flushMax) ∧ u.tx = s.tx ∧
      u.res = { s.res with cnt := BitVec.ofNat 32 (min s.rx.length s.params.flushMax) } ∧
      EndsWith 0 0 s u ∧ SameSums s u ∧ SameHostSide s u ∧ SameLengths s u ∧ SameBuffer .obuf s u ∧
      SameBuffer .ibuf s u ∧ u.time = t.time ∧ SameEnv s u)

/-- R160, R167: `ECHO_DISCARD` begins an echo discard; when `OP_LEN` bytes are in RX, its turns remove exactly those,
set no flag and report the count. R180, R200, R203: so it is in `S_W_ECHO`, the echo discard of the write-frame operations:
a turn removes one byte, and with the whole echo in RX the operation ends done with the count and no flag. -/
def Obligations.EchoDiscardRemovesEcho : Prop :=
  decodeByte .cmd8 0x16 = .ok .echoDiscard ∧
  (∀ s, Runs .echoDiscard s fun t =>
    WaitsIn (.xEcho 0 s.op.len.toNat) s t ∧ t.time = { s.time with t0Phase := s.time.now } ∧ t.res = s.res ∧
    SameLine s t ∧ SameSums s t ∧ SameHostSide s t ∧ SameLengths s t ∧ SameBuffer .obuf s t ∧ SameBuffer .ibuf s t ∧
    SameEnv s t ∧
    (s.op.len.toNat ≤ s.rx.length → Answers (turns (s.op.len.toNat + 1) t) fun u =>
      u.rx = s.rx.drop s.op.len.toNat ∧ u.tx = s.tx ∧
      u.res = { s.res with echoCnt := BitVec.ofNat 32 s.op.len.toNat } ∧
      EndsWith 0 0 s u ∧ SameSums s u ∧ SameHostSide s u ∧ SameLengths s u ∧ SameBuffer .obuf s u ∧
      SameBuffer .ibuf s u ∧ u.time = t.time ∧ SameEnv s u)) ∧
  ∀ s got want,
    (∀ b rest, got < want → s.rx = b :: rest →
      (s.seq = .xEcho got want → Answers (turn s) fun t =>
        t = { s with rx := rest, seq := .xEcho (got + 1) want, sleeping := false }) ∧
      (s.seq = .wEcho got want → Answers (turn s) fun t =>
        t = { s with rx := rest, seq := .wEcho (got + 1) want, sleeping := false })) ∧
    ((s.seq = .xEcho got want ∨ s.seq = .wEcho got want) → got ≤ want → want - got ≤ s.rx.length →
      Answers (turns (want - got + 1) s) fun u =>
        u.rx = s.rx.drop (want - got) ∧ u.tx = s.tx ∧ u.res = { s.res with echoCnt := BitVec.ofNat 32 want } ∧
        EndsWith 0 0 s u ∧ SameSums s u ∧ SameHostSide s u ∧ SameLengths s u ∧ SameBuffer .obuf s u ∧
        SameBuffer .ibuf s u ∧ u.time = s.time ∧ SameEnv s u)

/-- R34, R160: an echo discard that finds RX empty gives up at its deadline with the operation done, the count
reported and `ECHO_SHORT` set, and sleeps before it. -/
def Obligations.ShortEchoIsFlagged : Prop :=
  ∀ s got want, (s.seq = .xEcho got want ∨ s.seq = .wEcho got want) → got < want → s.rx = [] →
    (s.cfg.echoTimeout.toNat ≤ (s.time.now - s.time.t0Phase).toNat → Answers (turn s) fun t =>
      statusEchoShort t.status = true ∧ statusErr t.status = 0 ∧ statusDone t.status = true ∧
      statusBusy t.status = false ∧ statusHostViol t.status = statusHostViol s.status ∧ t.errInfo = 0 ∧ t.seq = .idle ∧
      t.res = { s.res with echoCnt := BitVec.ofNat 32 got } ∧ SameSums s t ∧ SameRest s t) ∧
    ((s.time.now - s.time.t0Phase).toNat < s.cfg.echoTimeout.toNat → Answers (turn s) fun t =>
      t.sleeping = true ∧ t.time = { s.time with tNext := s.time.now + 10 } ∧ t.seq = s.seq ∧ t.status = s.status ∧
      t.errInfo = s.errInfo ∧ t.res = s.res ∧ SameSums s t ∧ SameLine s t ∧ SameHostSide s t)

/-- R156, R168: `HEX_ENC` returns the two upper-case hex characters of `OP_BYTE`, high nibble first. -/
def Obligations.HexEncReturnsCharacters : Prop :=
  decodeByte .cmd8 0x17 = .ok .hexEnc ∧
  ∀ s, Runs .hexEnc s fun t =>
    t.res.lo.toNat = (if s.op.byte.toNat / 16 ≤ 9 then 0x30 + s.op.byte.toNat / 16
      else 0x41 + (s.op.byte.toNat / 16 - 10)) ∧
    t.res.hi.toNat = (if s.op.byte.toNat % 16 ≤ 9 then 0x30 + s.op.byte.toNat % 16
      else 0x41 + (s.op.byte.toNat % 16 - 10)) ∧
    t.res = { s.res with lo := t.res.lo, hi := t.res.hi } ∧ EndsWith 0 0 s t ∧ SameSums s t ∧ SameRest s t

/-- R155, R157, R169: `HEX_DEC` decodes two hex characters, and ends with `BadHex` at the first that is not one. -/
def Obligations.HexDecDecodesPair : Prop :=
  decodeByte .cmd8 0x18 = .ok .hexDec ∧
  ∀ s,
    (isHex s.op.byte = true → isHex s.op.byte2 = true → Runs .hexDec s fun t =>
      t.res = { s.res with lo := BitVec.ofNat 8 (16 * hexVal s.op.byte + hexVal s.op.byte2) } ∧
      EndsWith 0 0 s t ∧ SameSums s t ∧ SameRest s t) ∧
    (isHex s.op.byte = false → Runs .hexDec s fun t =>
      EndsWith 8 (s.op.byte.setWidth 16) s t ∧ SameSums s t ∧ t.res = s.res ∧ SameRest s t) ∧
    (isHex s.op.byte = true → isHex s.op.byte2 = false → Runs .hexDec s fun t =>
      EndsWith 8 (s.op.byte2.setWidth 16) s t ∧ SameSums s t ∧ t.res = s.res ∧ SameRest s t)

/-- R91, R100, R155 to R157: the hex characters are exactly the sixteen codes, with the values 0 to 15, and decoding
the encoding of a byte gives the byte back. -/
def Obligations.HexPairsRoundTrip : Prop :=
  (∀ c : Byte, isHex c = true ↔ (0x30 ≤ c.toNat ∧ c.toNat ≤ 0x39) ∨ (0x41 ≤ c.toNat ∧ c.toNat ≤ 0x46)) ∧
  (∀ c : Byte, (0x30 ≤ c.toNat ∧ c.toNat ≤ 0x39 → hexVal c = c.toNat - 0x30) ∧
    (0x41 ≤ c.toNat ∧ c.toNat ≤ 0x46 → hexVal c = c.toNat - 0x41 + 10)) ∧
  ∀ b : Byte, isHex (hexEncHi b) = true ∧ isHex (hexEncLo b) = true ∧ hexDecPair (hexEncHi b) (hexEncLo b) = b

/-! ### The ASCII codec -/

/-- R180, R181, R266: `ASC_WRITE_FRAME` builds the frame in OBUF with its LRC8 and pushes it as characters; then the echo
discard begins if `ECHO_EN` is set, and else the operation is done. A body that does not fit ends with `BadOperand`
before any effect. -/
def Obligations.AscWriteFrameBuildsFrame : Prop :=
  decodeByte .cmd8 0x20 = .ok .ascWriteFrame ∧
  ∀ s,
    (s.params.bufSize < s.op.len.toNat + 3 → Runs .ascWriteFrame s fun t =>
      EndsWith 6 0 s t ∧ SameSums s t ∧ t.res = s.res ∧ SameRest s t) ∧
    (s.op.len.toNat + 3 ≤ s.params.bufSize → Runs .ascWriteFrame s fun t =>
      ∃ covered sent,
        ReadsAs .obuf 0 (s.op.len.toNat + 2) t covered ∧ ReadsAs .obuf 0 (s.op.len.toNat + 3) t sent ∧
        t.lrcAcc.toNat = byteSum covered % 256 ∧
        (∀ j, byteAt .obuf j t =
          if j = 0 then some s.op.uid else if j = 1 then some s.op.fc
          else if j = s.op.len.toNat + 2 then some (lrc8Of covered) else byteAt .obuf j s) ∧
        t.olen = BitVec.ofNat 17 (s.op.len.toNat + 3) ∧ t.tx = s.tx ++ ascText sent ∧
        t.res = { s.res with cnt := BitVec.ofNat 32 (2 * (s.op.len.toNat + 3) + 3) } ∧
        (if s.cfg.ctrl.getLsbD 0 = true
          then WaitsIn (.wEcho 0 (2 * (s.op.len.toNat + 3) + 3)) s t ∧ t.time = { s.time with t0Phase := s.time.now }
          else EndsWith 0 0 s t ∧ t.time = s.time) ∧
        SameHostSide s t ∧ SameBuffer .ibuf s t ∧ t.ilen = s.ilen ∧ SameCrc s t ∧ t.rx = s.rx ∧ SameEnv s t)

/-- R180, R185, R192: what `ASC_WRITE_FRAME` pushes for a written body, `ASC_READ_FRAME` on a block with that unit id
accepts: unit id, function code and body come back and exactly those characters are consumed. -/
def Obligations.AscFrameRoundTrip : Prop :=
  ∀ (s r : State) (body tail : List Byte), s.op.len.toNat = body.length → body.length + 3 ≤ s.params.bufSize →
    s.params.bufSize < 2 ^ 17 → s.tx = [] →
    s.cfg.ctrl.getLsbD 0 = false → (∀ k b, body[k]? = some b → byteAt .obuf (2 + k) s = some b) →
    r.params.bufSize = s.params.bufSize → r.cfg.unitId = s.op.uid → r.unitIdWritten = true →
    r.cfg.overallTimeout = 0 →
    Runs .ascWriteFrame s fun t => r.rx = t.tx ++ tail → Runs .ascReadFrame r fun v =>
      Answers (turns (2 * body.length + 9) v) fun w =>
        EndsWith 0 0 r w ∧ w.rx = tail ∧ w.ilen = BitVec.ofNat 17 (body.length + 3) ∧
        w.res = { r.res with uid := s.op.uid, fc := s.op.fc, len := BitVec.ofNat 17 body.length } ∧
        (∀ k b, body[k]? = some b → byteAt .ibuf (2 + k) w = some b)

/-- R25, R185, R210: the read-frame operations begin with nothing accumulated: `ASC_READ_FRAME` at `SEEK`,
`RTU_READ_FRAME` at the unit id. That they run also while `CFG_UNIT_ID` was never written, where R56 and R293 say that a
model refuses them, is the model's choice of U2's free draw (log entry 4). -/
def Obligations.ReadFramesStartEmpty : Prop :=
  decodeByte .cmd8 0x21 = .ok .ascReadFrame ∧ decodeByte .cmd8 0x23 = .ok .rtuReadFrame ∧
  ∀ s, Runs .ascReadFrame s (Resyncs s) ∧
    Runs .rtuReadFrame s fun t => WaitsIn .rUid s t ∧ t.ilen = 0 ∧ SameWhileReading s t

/-- R92, R158, R185, R187: a start token begins a new frame in every wait state of the frame reader, whatever was
accumulated; the token reader reports `START`, or `BadHex` where a second character was due. -/
def Obligations.StartCharacterRestarts : Prop :=
  decodeByte .ascChar 0x3A = .ok .ascStart ∧
  ∀ s,
    (∀ high, s.seq = .aSeek ∨ s.seq = .aHi ∨ s.seq = .aLo high ∨ s.seq = .aLf → Runs .ascStart s fun t =>
      WaitsIn .aHi s t ∧ t.ilen = 0 ∧ SameWhileReading s t) ∧
    (s.seq = .xTok1 → Runs .ascStart s (TokenEnds 0 0 1 0 s)) ∧
    (∀ first, s.seq = .xTok2 first → Runs .ascStart s (TokenEnds 8 0x3A s.res.tok s.res.lo s))

/-- R92, R158, R185, R187: `CR` begins the end token where a high nibble is due, and fails the frame elsewhere; the
token reader takes it as a first character, and reports `BadHex` where a second was due. -/
def Obligations.CrCharacterBeginsEnd : Prop :=
  decodeByte .ascChar 0x0D = .ok .ascCr ∧
  ∀ s,
    (s.seq = .aHi → Runs .ascCr s fun t => WaitsIn .aLf s t ∧ t.ilen = s.ilen ∧ SameWhileReading s t) ∧
    (∀ high, s.seq = .aSeek ∨ s.seq = .aLo high ∨ s.seq = .aLf → Runs .ascCr s (Resyncs s)) ∧
    (s.seq = .xTok1 → Runs .ascCr s fun t => WaitsIn (.xTok2 0x0D) s t ∧ t.ilen = s.ilen ∧ SameWhileReading s t) ∧
    (∀ first, s.seq = .xTok2 first → Runs .ascCr s (TokenEnds 8 0x0D s.res.tok s.res.lo s))

/-- R92, R158, R185, R187: `LF` fails the frame where it does not follow a `CR`; the token reader reports `END` after
a `CR`, and `BadHex` elsewhere. -/
def Obligations.LfCharacterWithoutCr : Prop :=
  decodeByte .ascChar 0x0A = .ok .ascLf ∧
  ∀ s,
    (∀ high, s.seq = .aSeek ∨ s.seq = .aHi ∨ s.seq = .aLo high → Runs .ascLf s (Resyncs s)) ∧
    (s.seq = .xTok1 → Runs .ascLf s (TokenEnds 8 0x0A s.res.tok s.res.lo s)) ∧
    (s.seq = .xTok2 0x0D → Runs .ascLf s (TokenEnds 0 0 2 0 s)) ∧
    (∀ first, s.seq = .xTok2 first → first ≠ 0x0D → Runs .ascLf s (TokenEnds 8 0x0A s.res.tok s.res.lo s))

/-- R91, R92, R158, R185: a hex character, of any of its six rows: the frame reader takes it as high nibble, then as
low nibble, storing the byte while there is room and else failing the frame; elsewhere it is discarded. -/
def Obligations.HexCharactersAccumulate : Prop :=
  ∀ i s, hexRow i = true → i.WellFormed →
    (s.seq = .aHi → Runs i s fun t =>
      WaitsIn (.aLo (encodeByte i)) s t ∧ t.ilen = s.ilen ∧ SameWhileReading s t) ∧
    (∀ high, s.seq = .aLo high → s.ilen.toNat < s.params.bufSize → Runs i s fun t =>
      Appends (BitVec.ofNat 8 (16 * hexVal high + hexVal (encodeByte i))) s t ∧ ReadsOn .aHi s t ∧ SameLine s t) ∧
    (∀ high, s.seq = .aLo high → s.ilen.toNat = s.params.bufSize → Runs i s (Resyncs s)) ∧
    (s.seq = .aSeek ∨ s.seq = .aLf → Runs i s (Resyncs s)) ∧
    (s.seq = .xTok1 → Runs i s fun t =>
      WaitsIn (.xTok2 (encodeByte i)) s t ∧ t.ilen = s.ilen ∧ SameWhileReading s t) ∧
    (s.seq = .xTok2 0x0D → Runs i s (TokenEnds 8 ((encodeByte i).setWidth 16) s.res.tok s.res.lo s)) ∧
    (∀ first, s.seq = .xTok2 first → first ≠ 0x0D →
      Runs i s (TokenEnds 0 0 0 (BitVec.ofNat 8 (16 * hexVal first + hexVal (encodeByte i))) s))

/-- R185, R188 to R190: `LF` after `CR` completes a frame. Fewer than 3 bytes, a wrong LRC8 or a foreign unit id sends
the reader back to `SEEK`; else unit id, function code and body length are delivered and the operation is done. -/
def Obligations.AscFrameCheck : Prop :=
  ∀ s bs, s.seq = .aLf → bs.length = s.ilen.toNat → s.ilen.toNat ≤ s.params.bufSize → Holds .ibuf bs s →
    s.unitIdWritten = true →
    (bs.length < 3 → Runs .ascLf s (Resyncs s)) ∧
    (∀ covered last uid fc body, bs = covered ++ [last] → covered = uid :: fc :: body →
      ((last ≠ lrc8Of covered ∨ uid ≠ s.cfg.unitId) → Runs .ascLf s fun t =>
        WaitsIn .aSeek s t ∧ t.ilen = 0 ∧ t.lrcAcc.toNat = byteSum covered % 256 ∧ SameCrc s t ∧ SameHostSide s t ∧
        SameBuffer .obuf s t ∧ SameBuffer .ibuf s t ∧ t.res = s.res ∧ t.olen = s.olen ∧ SameLine s t ∧
        t.time = { s.time with t0Read := s.time.now } ∧ SameEnv s t) ∧
      (last = lrc8Of covered → uid = s.cfg.unitId → Runs .ascLf s fun t =>
        EndsWith 0 0 s t ∧ t.res = { s.res with uid := uid, fc := fc, len := BitVec.ofNat 17 body.length } ∧
        t.lrcAcc.toNat = byteSum covered % 256 ∧ SameCrc s t ∧ SameRest s t))

/-- R186, R265: once the overall bound of the ASCII reader has passed, its next turn reports `Deadline` and consumes
no character, whether or not one is available. -/
def Obligations.DeadlineComesFirst : Prop :=
  ∀ s high, (s.seq = .aSeek ∨ s.seq = .aHi ∨ s.seq = .aLo high ∨ s.seq = .aLf) → s.cfg.overallTimeout ≠ 0 →
    s.cfg.overallTimeout.toNat ≤ (s.time.now - s.time.t0Op).toNat → Answers (turn s) fun t =>
      EndsWith 5 0 s t ∧ SameSums s t ∧ t.res = s.res ∧ SameRest s t

/-! ### The RTU codec -/

/-- R200 to R204, R266: `RTU_WRITE_FRAME` builds the frame in OBUF with its CRC16, low byte first. With the flush off the
frame is pushed in the same step; with it on the flush begins first, and nothing is pushed yet. A
body that does not fit ends with `BadOperand` before any effect. `RES_CNT` is R200's flush count, not R24's bytes pushed (log entry 15). -/
def Obligations.RtuWriteFrameBuildsFrame : Prop :=
  decodeByte .cmd8 0x22 = .ok .rtuWriteFrame ∧
  ∀ s,
    (s.params.bufSize < s.op.len.toNat + 4 → Runs .rtuWriteFrame s fun t =>
      EndsWith 6 0 s t ∧ SameSums s t ∧ t.res = s.res ∧ SameRest s t) ∧
    (s.op.len.toNat + 4 ≤ s.params.bufSize → Runs .rtuWriteFrame s fun t =>
      ∃ covered sent,
        ReadsAs .obuf 0 (s.op.len.toNat + 2) t covered ∧ ReadsAs .obuf 0 (s.op.len.toNat + 4) t sent ∧
        t.crcHi ++ t.crcLo = crc16Of covered ∧
        (∀ j, byteAt .obuf j t =
          if j = 0 then some s.op.uid else if j = 1 then some s.op.fc
          else if j = s.op.len.toNat + 2 then some t.crcLo
          else if j = s.op.len.toNat + 3 then some t.crcHi else byteAt .obuf j s) ∧
        t.olen = BitVec.ofNat 17 (s.op.len.toNat + 4) ∧ t.res = { s.res with cnt := 0 } ∧
        (if s.cfg.ctrl.getLsbD 1 = true
          then WaitsIn (.wFlush 0) s t ∧ t.tx = s.tx ∧ t.time = { s.time with t0Phase := s.time.now }
          else t.tx = s.tx ++ sent ∧
            (if s.cfg.ctrl.getLsbD 0 = true
              then WaitsIn (.wEcho 0 (s.op.len.toNat + 4)) s t ∧ t.time = { s.time with t0Phase := s.time.now }
              else EndsWith 0 0 s t ∧ t.time = s.time)) ∧
        SameHostSide s t ∧ SameBuffer .ibuf s t ∧ t.ilen = s.ilen ∧ t.lrcAcc = s.lrcAcc ∧ t.rx = s.rx ∧ SameEnv s t)

/-- R159, R200, R202, R203: a turn of the flush of a write discards one byte and pushes nothing, and its last turn
reports the bytes discarded (log entry 15) and pushes the frame in the same step. -/
def Obligations.FlushThenTransmit : Prop :=
  (∀ s n b rest, s.seq = .wFlush n → s.rx = b :: rest → n < s.params.flushMax →
    (s.time.now - s.time.t0Phase).toNat < s.params.flushWindowMs → Answers (turn s) fun t =>
      t = { s with rx := rest, seq := .wFlush (n + 1), sleeping := false }) ∧
  ∀ s n, s.seq = .wFlush n →
    (s.rx = [] ∨ s.params.flushMax ≤ n ∨ s.params.flushWindowMs ≤ (s.time.now - s.time.t0Phase).toNat) →
    Answers (turn s) fun t => ∃ sent,
      ReadsAs .obuf 0 (s.op.len.toNat + 4) s sent ∧ t.tx = s.tx ++ sent ∧ t.rx = s.rx ∧
      t.res = { s.res with cnt := BitVec.ofNat 32 n } ∧
      (if s.cfg.ctrl.getLsbD 0 = true
        then WaitsIn (.wEcho 0 (s.op.len.toNat + 4)) s t ∧ t.time = { s.time with t0Phase := s.time.now }
        else EndsWith 0 0 s t ∧ t.time = s.time) ∧
      SameSums s t ∧ SameHostSide s t ∧ SameLengths s t ∧ SameBuffer .obuf s t ∧ SameBuffer .ibuf s t ∧ SameEnv s t

/-- R110, R210, R212 to R217, R220: a function code, of any of the thirty rows, is stored and acted on by its class in
`FC_TABLE`: the count classes wait for a count byte, the fixed classes for their bytes or report `TooLong`, and an
unknown code ends the operation with `UnknownFunction`. -/
def Obligations.FunctionCodeGivesLength : Prop :=
  ∀ i s, i.key.format = .rtuFc → i.WellFormed → s.seq = .rFc → s.ilen.toNat < s.params.bufSize →
    s.params.bufSize < 2 ^ 17 →
    Runs i s fun t =>
      Appends (encodeByte i) s t ∧ SameLine s t ∧
      (match classIn s.params.fcTable (encodeByte i) with
        | .unknown => ReadFails 3 ((encodeByte i).setWidth 16) s t
        | .count8  => ReadsOn (.rCnt false) s t
        | .count16 => ReadsOn (.rCnt true) s t
        | .fixed6  => LengthKnown (s.ilen.toNat + 1) 6 s t
        | .fixed3  => LengthKnown (s.ilen.toNat + 1) 3 s t
        | .fixed8  => LengthKnown (s.ilen.toNat + 1) 8 s t)

/-- R101, R210, R212, R213, R220: a count byte `c` leaves `c + 2` bytes, a count word `w`, high byte first, leaves
`w + 2`. -/
def Obligations.CountGivesLength : Prop :=
  ∀ s c rest, s.rx = c :: rest → s.ilen.toNat < s.params.bufSize → s.params.bufSize < 2 ^ 17 →
    (s.seq = .rCnt false → Answers (turn s) fun t =>
      Appends c s t ∧ t.rx = rest ∧ t.tx = s.tx ∧ LengthKnown (s.ilen.toNat + 1) (c.toNat + 2) s t) ∧
    (s.seq = .rCnt true → Answers (turn s) fun t =>
      Appends c s t ∧ t.rx = rest ∧ t.tx = s.tx ∧ ReadsOn (.rCnt2 c) s t) ∧
    (∀ high, s.seq = .rCnt2 high → Answers (turn s) fun t =>
      Appends c s t ∧ t.rx = rest ∧ t.tx = s.tx ∧
      LengthKnown (s.ilen.toNat + 1) (256 * high.toNat + c.toNat + 2) s t)

/-- R102, R210, R211, R218, R221: the last byte of an RTU frame completes it. Unless both received CRC bytes equal the
computed ones the operation ends with `CrcMismatch`; a foreign unit id starts the reader again; else unit id, function
code and body length are delivered. -/
def Obligations.RtuFrameCheck : Prop :=
  ∀ s uid fc body low high rest, s.seq = .rBody 0 → s.rx = high :: rest →
    (uid :: fc :: body).length + 1 = s.ilen.toNat → s.ilen.toNat < s.params.bufSize → s.params.bufSize < 2 ^ 17 →
    Holds .ibuf (uid :: fc :: body ++ [low]) s → s.unitIdWritten = true →
    Answers (turn s) fun t =>
      t.crcHi ++ t.crcLo = crc16Of (uid :: fc :: body) ∧ t.lrcAcc = s.lrcAcc ∧ t.rx = rest ∧ t.tx = s.tx ∧
      SameBuffer .obuf s t ∧ SameHostSide s t ∧ t.olen = s.olen ∧ SameEnv s t ∧
      (∀ j, byteAt .ibuf j t = if j = s.ilen.toNat then some high else byteAt .ibuf j s) ∧
      (if high ++ low ≠ crc16Of (uid :: fc :: body)
        then EndsWith 2 (high ++ low) s t ∧ t.ilen = s.ilen + 1 ∧ t.res = s.res ∧ t.time = s.time
        else if uid ≠ s.cfg.unitId
          then WaitsIn .rUid s t ∧ t.ilen = 0 ∧ t.res = s.res ∧ t.time = { s.time with t0Read := s.time.now }
          else EndsWith 0 0 s t ∧ t.ilen = s.ilen + 1 ∧ t.time = s.time ∧
            t.res = { s.res with uid := uid, fc := fc, len := BitVec.ofNat 17 body.length })

/-- R96, R210, R223: a frame of any known length class with a good CRC and the configured unit id, in RX with anything
behind it, is accepted: exactly its bytes are consumed and its body is delivered. -/
def Obligations.RtuReaderExtractsFrame : Prop :=
  ∀ s fc body low high tail, s.unitIdWritten = true →
    body.length + 4 ≤ s.params.bufSize → s.params.bufSize < 2 ^ 17 →
    (match classIn s.params.fcTable fc with
      | .unknown => False
      | .count8  => ∃ c data, body = c :: data ∧ data.length = c.toNat
      | .count16 => ∃ h l data, body = h :: l :: data ∧ data.length = 256 * h.toNat + l.toNat
      | .fixed6  => body.length = 4
      | .fixed3  => body.length = 1
      | .fixed8  => body.length = 6) →
    high ++ low = crc16Of (s.cfg.unitId :: fc :: body) →
    s.rx = s.cfg.unitId :: fc :: body ++ [low, high] ++ tail →
    Runs .rtuReadFrame s fun t => Answers (turns (body.length + 4) t) fun u =>
      EndsWith 0 0 s u ∧ u.rx = tail ∧ u.ilen = BitVec.ofNat 17 (body.length + 4) ∧
      u.res = { s.res with uid := s.cfg.unitId, fc := fc, len := BitVec.ofNat 17 body.length } ∧
      Holds .ibuf (s.cfg.unitId :: fc :: body ++ [low, high]) u

/-- R112: the default population of `FC_TABLE`, which `State.reset` holds (log entry 1). -/
def Obligations.DefaultFunctionCodeTable : Prop :=
  ∀ f : Byte, lenClass f State.reset =
    if f ∈ [0x01, 0x02, 0x03, 0x04, 0x0C, 0x11, 0x14, 0x15, 0x17] then .count8
    else if f ∈ [0x05, 0x06, 0x0B, 0x0F, 0x10] then .fixed6
    else if f ∈ [0x07, 0x08] then .fixed3
    else if f = 0x16 then .fixed8
    else if f = 0x18 then .count16
    else .unknown

/-! ### Host control -/

/-- R235, R271: `NOP` is done and changes nothing else. -/
def Obligations.NopIsDone : Prop :=
  decodeByte .cmd8 0x00 = .ok .nop ∧
  ∀ s, Runs .nop s fun t => EndsWith 0 0 s t ∧ SameSums s t ∧ t.res = s.res ∧ SameRest s t

/-- R122, R267: the illegal command codes are `0x09..0x0F`, `0x19..0x1F` and `0x24..0xFF`; each, of any of its eleven
rows, ends at once with `BadCommand` and the code, and changes nothing else. A step that writes such a code to `CMD`
while idle changes no state but `CMD`, `STATUS`, `ERR_INFO` and the sequencer's (log entry 10). -/
def Obligations.IllegalCodesAreBadCommands : Prop :=
  (∀ b : Byte, (∃ i, decodeByte .cmd8 b = .ok i ∧ illegalRow i = true) ↔
    (0x09 ≤ b.toNat ∧ b.toNat ≤ 0x0F) ∨ (0x19 ≤ b.toNat ∧ b.toNat ≤ 0x1F) ∨ 0x24 ≤ b.toNat) ∧
  (∀ i s, illegalRow i = true → i.WellFormed → Runs i s fun t =>
    EndsWith 7 ((encodeByte i).setWidth 16) s t ∧ SameSums s t ∧ t.res = s.res ∧ SameRest s t) ∧
  ∀ s v rest i, s.moves = .hostWrite 0x32 v :: rest → statusBusy s.status = false →
    decodeByte .cmd8 (v.setWidth 8) = .ok i → illegalRow i = true → Answers (step s) fun t =>
      EndsWith 7 ((v.setWidth 8).setWidth 16) s t ∧
      t = { s with
        cmd := v.setWidth 8, status := t.status, errInfo := t.errInfo, seq := .idle, sleeping := false, moves := rest }

/-- R231: a step whose next move is the host's write of a code to `CMD` while idle records the code and the time,
marks the block busy with nothing reported, and runs the instruction the code decodes to, in one step. An illegal code
does not record the time (R122, R267; log entry 10). -/
def Obligations.StepIssuesCommand : Prop :=
  ∀ s v rest i, s.moves = .hostWrite 0x32 v :: rest → statusBusy s.status = false →
    decodeByte .cmd8 (v.setWidth 8) = .ok i →
    ∃ e, step s = exec i e ∧ e.cmd = v.setWidth 8 ∧ statusDone e.status = false ∧ statusErr e.status = 0 ∧
      statusBusy e.status = true ∧ statusEchoShort e.status = statusEchoShort s.status ∧
      statusHostViol e.status = statusHostViol s.status ∧ e.errInfo = 0 ∧
      e.time = (if illegalRow i = true then s.time else { s.time with t0Op := s.time.now }) ∧
      e.params = s.params ∧ e.cfg = s.cfg ∧ e.unitIdWritten = s.unitIdWritten ∧ e.op = s.op ∧ e.res = s.res ∧
      SameSums s e ∧ SameLengths s e ∧ SameLine s e ∧ e.obuf = s.obuf ∧ e.ibuf = s.ibuf ∧ e.moves = rest ∧
      e.readData = s.readData ∧ e.draws = s.draws

/-- R31, R92, R110, R124, R154, R185: when a due reader finds a byte in RX, the step takes that byte off RX and runs the
instruction it decodes to in the reader's format (log entry 9). A character of no row sends the frame reader back to
`SEEK` with nothing accumulated, and ends the token operation with `BadHex`. -/
def Obligations.StepRunsReceivedCode : Prop :=
  ∀ s c rest, s.moves = [] → s.rx = c :: rest → (s.sleeping = true → s.time.now = s.time.tNext) →
    (∀ i, s.seq = .rFc → decodeByte .rtuFc c = .ok i → step s = exec i { s with rx := rest, sleeping := false }) ∧
    (∀ first, s.seq = .xTok1 ∨ s.seq = .xTok2 first →
      (∀ i, decodeByte .ascChar c = .ok i → step s = exec i { s with rx := rest, sleeping := false }) ∧
      (decodeByte .ascChar c = .error (.noRow .ascChar) → Answers (step s)
        (TokenEnds 8 (c.setWidth 16) s.res.tok s.res.lo { s with rx := rest, sleeping := false }))) ∧
    (∀ high, s.seq = .aSeek ∨ s.seq = .aHi ∨ s.seq = .aLo high ∨ s.seq = .aLf → deadlinePassed s = false →
      (∀ i, decodeByte .ascChar c = .ok i → step s = exec i { s with rx := rest, sleeping := false }) ∧
      (decodeByte .ascChar c = .error (.noRow .ascChar) → Answers (step s)
        (Resyncs { s with rx := rest, sleeping := false })))

/-- R35, R63, R233: a host write to a register of the map, to `CMD` or to OBUF while busy changes nothing but
`HOST_VIOL`. -/
def Obligations.WritesWhileBusyAreDropped : Prop :=
  ∀ s m rest, s.moves = m :: rest → statusBusy s.status = true →
    ((∃ n v, m = .hostWrite n v ∧ regAt n ≠ none) ∨ ∃ i b, m = .hostStore .obuf i b) →
    Answers (step s) fun t =>
      statusHostViol t.status = true ∧ statusErr t.status = statusErr s.status ∧
      statusDone t.status = statusDone s.status ∧ statusBusy t.status = true ∧
      statusEchoShort t.status = statusEchoShort s.status ∧ t = { s with status := t.status, moves := rest }

/-- R234: an idle host write to `STATUS` clears the sticky bits in whose places it has a 1, and nothing else. -/
def Obligations.StatusWriteClearsSticky : Prop :=
  ∀ s v rest, s.moves = .hostWrite 0x30 v :: rest → statusBusy s.status = false → Answers (step s) fun t =>
    statusEchoShort t.status = (statusEchoShort s.status && !v.getLsbD 2) ∧
    statusHostViol t.status = (statusHostViol s.status && !v.getLsbD 3) ∧
    statusErr t.status = statusErr s.status ∧ statusDone t.status = statusDone s.status ∧
    statusBusy t.status = false ∧ t = { s with status := t.status, moves := rest }

/-- R40, R42, R123: an idle host write then read of a configuration or operand register gives the value truncated to
the register's width, reserved bits zero; a number outside the map reads zero and ignores writes; a read-only register
ignores writes and reads its value. R63: an idle store writes the byte of OBUF and is ignored by IBUF, and an idle load
of a written byte returns it. -/
def Obligations.RegisterWriteThenRead : Prop :=
  (∀ s n v rest, s.moves = .hostWrite n v :: .hostRead n :: rest → statusBusy s.status = false →
    (∀ w, (n, w) ∈ [(0x00, 8), (0x01, 2), (0x02, 16), (0x03, 16), (0x04, 16), (0x10, 8), (0x11, 8), (0x12, 17),
        (0x13, 17), (0x14, 8), (0x15, 8), (0x16, 1)] →
      Answers (steps 2 s) fun t => t.readData.toNat = v.toNat % 2 ^ w ∧ t.moves = rest) ∧
    (regAt n = none → Answers (steps 2 s) fun t => t = { s with readData := 0, moves := rest }) ∧
    (∀ w : Word, (n, w) ∈ [(0x20, s.res.uid.setWidth 32), (0x21, s.res.fc.setWidth 32), (0x22, s.res.len.setWidth 32),
        (0x23, s.res.lo.setWidth 32), (0x24, s.res.hi.setWidth 32), (0x25, s.res.cnt), (0x26, s.res.tok.setWidth 32),
        (0x27, s.res.echoCnt), (0x28, s.olen.setWidth 32), (0x29, s.ilen.setWidth 32), (0x31, s.errInfo.setWidth 32),
        (0x40, s.crcLo.setWidth 32), (0x41, s.crcHi.setWidth 32), (0x42, s.lrcAcc.setWidth 32), (0x50, s.time.now)] →
      Answers (step s) (fun t => t = { s with moves := .hostRead n :: rest }) ∧
      Answers (steps 2 s) fun t => t = { s with readData := w, moves := rest })) ∧
  (∀ s i b rest, s.moves = .hostStore .obuf i b :: rest → statusBusy s.status = false → i < s.params.bufSize →
    Answers (step s) fun t =>
      t = { s with obuf := t.obuf, moves := rest } ∧
      ∀ j, byteAt .obuf j t = if j = i then some b else byteAt .obuf j s) ∧
  (∀ s i b rest, s.moves = .hostStore .ibuf i b :: rest → statusBusy s.status = false → i < s.params.bufSize →
    Answers (step s) fun t => t = { s with moves := rest }) ∧
  ∀ s sp i b rest, s.moves = .hostLoad sp i :: rest → statusBusy s.status = false → i < s.params.bufSize →
    byteAt sp i s = some b → Answers (step s) fun t => t = { s with readData := b.setWidth 32, moves := rest }

/-- R55, R290, R291: the reset input puts every register in its reset value, abandons a running operation, and leaves
the queues as they are. `CFG_UNIT_ID` counts as not written, and no buffer byte as written (U1, U2; log entry 4). -/
def Obligations.ResetInputSetsRegisters : Prop :=
  ∀ s rest, s.moves = .reset :: rest → Answers (step s) fun t =>
    t.seq = .idle ∧ t.sleeping = false ∧ t.status = 0 ∧ t.errInfo = 0 ∧ t.cmd = 0 ∧ t.crcLo = 0xFF ∧ t.crcHi = 0xFF ∧
    t.lrcAcc = 0 ∧
    t.op = { uid := 0, fc := 0, len := 0, off := 0, byte := 0, byte2 := 0, sel := 0 } ∧
    t.res = { uid := 0, fc := 0, len := 0, lo := 0, hi := 0, tok := 0, cnt := 0, echoCnt := 0 } ∧
    t.olen = 0 ∧ t.ilen = 0 ∧ t.cfg.ctrl = 0 ∧ t.cfg.readTimeout = 500 ∧ t.cfg.echoTimeout = 1000 ∧
    t.cfg.overallTimeout = 0 ∧ t.time = { now := 0, t0Read := 0, tNext := 0, t0Phase := 0, t0Op := 0 } ∧
    t.unitIdWritten = false ∧ (∀ sp i, byteAt sp i t = none) ∧ t.rx = s.rx ∧ t.tx = s.tx ∧ t.params = s.params

/-! ### Waiting -/

/-- R153, R154, R186: a timed read that finds RX empty reports `Timeout` once its bound has passed, and until then
sleeps for 10 milliseconds; nothing else changes. The ASCII reader does the same unless its overall bound has passed. -/
def Obligations.EmptyReadPolls : Prop :=
  ∀ s first wide high more,
    (s.seq = .xRead ∨ s.seq = .xTok1 ∨ s.seq = .xTok2 first ∨ s.seq = .rUid ∨ s.seq = .rFc ∨ s.seq = .rCnt wide ∨
      s.seq = .rCnt2 high ∨ s.seq = .rBody more ∨
      (s.seq = .aSeek ∨ s.seq = .aHi ∨ s.seq = .aLo high ∨ s.seq = .aLf) ∧
        (s.cfg.overallTimeout = 0 ∨ (s.time.now - s.time.t0Op).toNat < s.cfg.overallTimeout.toNat)) →
    s.rx = [] →
    (s.cfg.readTimeout.toNat ≤ (s.time.now - s.time.t0Read).toNat → Answers (turn s) fun t =>
      EndsWith 1 0 s t ∧ SameSums s t ∧ t.res = s.res ∧ SameRest s t) ∧
    ((s.time.now - s.time.t0Read).toNat < s.cfg.readTimeout.toNat → Answers (turn s) fun t =>
      t = { s with sleeping := true, time := { s.time with tNext := s.time.now + 10 } })

/-- R154 (a), R310: no turn of a running operation reports `Timeout` while a byte is available. -/
def Obligations.NoTimeoutWhileByteAvailable : Prop :=
  ∀ s t info, s.seq ≠ .idle → s.rx ≠ [] → turn s = .next t → ¬ EndsWith 1 info s t

/-- R154 (b), R310: with nothing arriving and no other agent acting, `RX_READ` ends with `Timeout`
`ceil(T / 10) * 10` milliseconds after it began, and never earlier. -/
def Obligations.SilentReadTimesOut : Prop :=
  ∀ s, s.rx = [] → s.moves = [] → Runs .rxRead s fun t =>
    ∃ n, (Answers (steps n t) fun u =>
        EndsWith 1 0 s u ∧ u.res = s.res ∧ u.rx = [] ∧
        u.time.now = s.time.now + BitVec.ofNat 32 ((s.cfg.readTimeout.toNat + 9) / 10 * 10)) ∧
      ∀ k, k < n → Answers (steps k t) fun u => u.seq = .xRead

/-! ### The whole machine -/

/-- R23, R64, R65, R79, R151, R152: a turn of the sequencer takes at most one byte, the head of RX, only appends to
TX, and writes no configuration register, operand register, `CMD` or parameter. -/
def Obligations.TurnsKeepQueuesInOrder : Prop :=
  ∀ s t, turn s = .next t →
    (t.rx = s.rx ∨ ∃ b, s.rx = b :: t.rx) ∧ (∃ bs, t.tx = s.tx ++ bs) ∧ SameHostSide s t

/-- R274 (c): the turn in which a waiting operation fails writes no result register. -/
def Obligations.FailedReadsWriteNoResults : Prop :=
  ∀ s t err info, turn s = .next t → EndsWith err info s t → err ≠ 0 → s.seq ≠ .idle → t.res = s.res

/-- R66: no move of the line touches a register or a buffer. -/
def Obligations.LineTouchesOnlyQueues : Prop :=
  ∀ s m rest b, s.moves = m :: rest → (m = .lineRx b ∨ m = .lineTx ∨ m = .lineEcho) →
    Answers (step s) fun t => t = { s with rx := t.rx, tx := t.tx, moves := rest } ∧
      (m = .lineRx b → t.rx = s.rx ++ [b] ∧ t.tx = s.tx) ∧
      (m = .lineTx → t.rx = s.rx ∧ t.tx = s.tx.tail) ∧
      (m = .lineEcho → t.rx ++ t.tx = s.rx ++ s.tx ∧ t.tx = s.tx.tail)

/-! ### Encoding -/

/-- R91, R92, R112, R120, R122: decoding the word of a well-formed instruction in its own format gives it back. -/
def Obligations.DecodeOfEncode : Prop :=
  ∀ i : Instr, i.WellFormed → decode i.key.format (encode i) = .ok (i, [])

/-- R91, R92, R112, R120, R122: what a byte decodes to is well formed, is of the format and encodes to the byte; every
byte decodes in the formats CMD8 and RTU_FC, and in ASC_CHAR exactly the hex characters, `':'`, `CR` and `LF` do. -/
def Obligations.EncodeOfDecode : Prop :=
  (∀ f b i, decodeByte f b = .ok i → encodeByte i = b ∧ i.WellFormed ∧ i.key.format = f) ∧
  (∀ b, ∃ i, decodeByte .cmd8 b = .ok i) ∧ (∀ b, ∃ i, decodeByte .rtuFc b = .ok i) ∧
  ∀ b, (∃ i, decodeByte .ascChar b = .ok i) ↔ (isHex b = true ∨ b = 0x3A ∨ b = 0x0D ∨ b = 0x0A)

/-- R91, R92, R112, R120, R122: some words of each format, written out from the tables. -/
def Obligations.SampleWordsDecode : Prop :=
  decodeByte .cmd8 0x08 = .ok .crcRange ∧ decodeByte .cmd8 0x18 = .ok .hexDec ∧
  decodeByte .cmd8 0x23 = .ok .rtuReadFrame ∧ decodeByte .cmd8 0x0F = .ok (.illegal0C0F 0x0F) ∧
  decodeByte .cmd8 0xFF = .ok (.illegal80FF 0xFF) ∧ decodeByte .rtuFc 0x18 = .ok .fc18ReadFifoQueue ∧
  decodeByte .rtuFc 0x83 = .ok (.fcUnknown80FF 0x83) ∧ decodeByte .ascChar 0x39 = .ok (.ascHex89 0x39) ∧
  decodeByte .ascChar 0x61 = .error (.noRow .ascChar) ∧ decodeTableWord 8 0x20 = some .ascWriteFrame

/-! ### Invariants -/

/-- R55: the invariant holds right after reset. -/
def Obligations.InvariantHoldsAtReset : Prop := BlockInv State.reset

/-- R30, R31, R33, R260: every step keeps `BUSY = 0` exactly when `SEQ = S_IDLE`, nothing reported while busy, an error
code of the list, and `SEQ` never seen at `S_EXEC`. -/
def Obligations.StatusFollowsSequencer : Prop :=
  ∀ s t, StatusOk s → step s = .next t → StatusOk t

/-- R60, R62: every step keeps both buffers in canonical form and inside `BUF_SIZE`. -/
def Obligations.BuffersStayCanonical : Prop :=
  ∀ s t, BuffersOk s → step s = .next t → BuffersOk t

/-- R153: every step keeps a sleeping sequencer at most `POLL_MS` before its wake time, which time never passes. -/
def Obligations.SleepIsBounded : Prop :=
  ∀ s t, SleepOk s → step s = .next t → SleepOk t

/-- R24, R31, R42, R62: every step keeps the whole invariant. -/
def Obligations.InvariantIsKept : Prop :=
  ∀ s t, BlockInv s → step s = .next t → BlockInv t

/-- R62: from a state with the invariant every step answers a next state, but for a host access outside a buffer. That
a read-frame operation runs also while `CFG_UNIT_ID` was never written, where R56 and R293 say that a model refuses the
run, is the model's choice of U2's free draw (log entry 4). -/
def Obligations.NoStepStops : Prop :=
  ∀ s, BlockInv s → accessOutside s = false → ∃ t, step s = .next t
end

