-- ==== Sys2Proof/Laws/Decode.lean ====
section
/-! SUPPORT. Laws/Decode: what a decoded word is, that no two rows of a format share a word, and that a reader which
runs the instruction of the word it took does with the word what its rule says. -/

namespace Sys2Proof

/-- A row found matches the byte. -/
theorem findRow_some {rs : List DecodeRow} {b : Byte} {i : Instr} (h : findRow rs b = some i) :
    ∃ r ∈ rs, b &&& r.mask = r.pattern ∧ i = r.make b := by
  induction rs with
  | nil => cases h
  | cons r rs ih =>
    simp only [findRow] at h
    split at h
    · exact ⟨r, by simp, ‹_›, by simpa using h.symm⟩
    · obtain ⟨r', hr, hb, hi⟩ := ih h
      exact ⟨r', by simp [hr], hb, hi⟩

/-- A decoded byte is in a row of the format. -/
theorem decodeByte_ok {f : Format} {b : Byte} {i : Instr} (h : decodeByte f b = .ok i) :
    ∃ r ∈ rowsOf f, b &&& r.mask = r.pattern ∧ i = r.make b := by
  unfold decodeByte at h
  split at h
  · cases h
    exact findRow_some ‹_›
  · cases h

/-- No two rows of a format match one byte (R120: the rows partition the byte). -/
theorem rows_disjoint (f : Format) :
    (rowsOf f).Pairwise fun r r' => (r.pattern ^^^ r'.pattern) &&& (r.mask &&& r'.mask) ≠ 0 := by
  cases f <;> decide

/-- A byte equal to a pattern under a full mask is the pattern. -/
theorem eq_of_and_full {b p : Byte} (h : b &&& 0xFF = p) : b = p := by
  have e : b &&& 0xFF = b := BitVec.and_allOnes
  rw [← h, e]

namespace Machine

/-- An ASCII reader does the same with every character, whether or not it is in a row (R92). -/
theorem character_eq (c : Byte) (s : State) : character c s = takeCharacter c s := by
  unfold character
  split
  · rename_i i h
    obtain ⟨r, hr, hb, rfl⟩ := decodeByte_ok h
    simp only [rowsOf, characterRows, List.cons_append, List.nil_append, List.mem_cons, List.not_mem_nil, or_false] at hr
    rcases hr with rfl | rfl | rfl | rfl | rfl | rfl | rfl | rfl | rfl <;>
      first | rfl | (cases eq_of_and_full hb; rfl)
  · rfl

/-- The RTU reader does with every function code what its segment says (R110, R210). -/
theorem functionCode_eq (f : Byte) (s : State) : functionCode f s = takeFunctionCode f s := by
  unfold functionCode
  split
  · rename_i i h
    obtain ⟨r, hr, hb, rfl⟩ := decodeByte_ok h
    simp only [rowsOf, functionCodeRows, List.cons_append, List.nil_append, List.mem_cons, List.not_mem_nil,
      or_false] at hr
    rcases hr with rfl | rfl | rfl | rfl | rfl | rfl | rfl | rfl | rfl | rfl | rfl | rfl | rfl | rfl | rfl | rfl |
      rfl | rfl | rfl | rfl | rfl | rfl | rfl | rfl | rfl | rfl | rfl | rfl | rfl | rfl <;>
      first | rfl | (cases eq_of_and_full hb; rfl)
  · rfl

end Machine

end Sys2Proof
end

