-- ==== Sys2Proof/Laws/State.lean ====
section
/-! SUPPORT. Laws/State: what each field of the state is after each update, one lemma per field, true by rfl. -/

namespace Sys2Proof.Machine

/-! ### store_obuf -/

@[simp] theorem store_obuf_params (i : Nat) (b : Byte) (s : State) : (store .obuf i b s).params = s.params := rfl
@[simp] theorem store_obuf_cfg (i : Nat) (b : Byte) (s : State) : (store .obuf i b s).cfg = s.cfg := rfl
@[simp] theorem store_obuf_op (i : Nat) (b : Byte) (s : State) : (store .obuf i b s).op = s.op := rfl
@[simp] theorem store_obuf_res (i : Nat) (b : Byte) (s : State) : (store .obuf i b s).res = s.res := rfl
@[simp] theorem store_obuf_crcLo (i : Nat) (b : Byte) (s : State) : (store .obuf i b s).crcLo = s.crcLo := rfl
@[simp] theorem store_obuf_crcHi (i : Nat) (b : Byte) (s : State) : (store .obuf i b s).crcHi = s.crcHi := rfl
@[simp] theorem store_obuf_lrcAcc (i : Nat) (b : Byte) (s : State) : (store .obuf i b s).lrcAcc = s.lrcAcc := rfl
@[simp] theorem store_obuf_olen (i : Nat) (b : Byte) (s : State) : (store .obuf i b s).olen = s.olen := rfl
@[simp] theorem store_obuf_ilen (i : Nat) (b : Byte) (s : State) : (store .obuf i b s).ilen = s.ilen := rfl
@[simp] theorem store_obuf_seq (i : Nat) (b : Byte) (s : State) : (store .obuf i b s).seq = s.seq := rfl
@[simp] theorem store_obuf_sleeping (i : Nat) (b : Byte) (s : State) : (store .obuf i b s).sleeping = s.sleeping := rfl
@[simp] theorem store_obuf_status (i : Nat) (b : Byte) (s : State) : (store .obuf i b s).status = s.status := rfl
@[simp] theorem store_obuf_errInfo (i : Nat) (b : Byte) (s : State) : (store .obuf i b s).errInfo = s.errInfo := rfl
@[simp] theorem store_obuf_cmd (i : Nat) (b : Byte) (s : State) : (store .obuf i b s).cmd = s.cmd := rfl
@[simp] theorem store_obuf_time (i : Nat) (b : Byte) (s : State) : (store .obuf i b s).time = s.time := rfl
@[simp] theorem store_obuf_obuf (i : Nat) (b : Byte) (s : State) : (store .obuf i b s).obuf = memSet s.obuf i b := rfl
@[simp] theorem store_obuf_ibuf (i : Nat) (b : Byte) (s : State) : (store .obuf i b s).ibuf = s.ibuf := rfl
@[simp] theorem store_obuf_rx (i : Nat) (b : Byte) (s : State) : (store .obuf i b s).rx = s.rx := rfl
@[simp] theorem store_obuf_tx (i : Nat) (b : Byte) (s : State) : (store .obuf i b s).tx = s.tx := rfl
@[simp] theorem store_obuf_unitIdWritten (i : Nat) (b : Byte) (s : State) : (store .obuf i b s).unitIdWritten = s.unitIdWritten := rfl
@[simp] theorem store_obuf_readData (i : Nat) (b : Byte) (s : State) : (store .obuf i b s).readData = s.readData := rfl
@[simp] theorem store_obuf_draws (i : Nat) (b : Byte) (s : State) : (store .obuf i b s).draws = s.draws := rfl
@[simp] theorem store_obuf_moves (i : Nat) (b : Byte) (s : State) : (store .obuf i b s).moves = s.moves := rfl

/-! ### store_ibuf -/

@[simp] theorem store_ibuf_params (i : Nat) (b : Byte) (s : State) : (store .ibuf i b s).params = s.params := rfl
@[simp] theorem store_ibuf_cfg (i : Nat) (b : Byte) (s : State) : (store .ibuf i b s).cfg = s.cfg := rfl
@[simp] theorem store_ibuf_op (i : Nat) (b : Byte) (s : State) : (store .ibuf i b s).op = s.op := rfl
@[simp] theorem store_ibuf_res (i : Nat) (b : Byte) (s : State) : (store .ibuf i b s).res = s.res := rfl
@[simp] theorem store_ibuf_crcLo (i : Nat) (b : Byte) (s : State) : (store .ibuf i b s).crcLo = s.crcLo := rfl
@[simp] theorem store_ibuf_crcHi (i : Nat) (b : Byte) (s : State) : (store .ibuf i b s).crcHi = s.crcHi := rfl
@[simp] theorem store_ibuf_lrcAcc (i : Nat) (b : Byte) (s : State) : (store .ibuf i b s).lrcAcc = s.lrcAcc := rfl
@[simp] theorem store_ibuf_olen (i : Nat) (b : Byte) (s : State) : (store .ibuf i b s).olen = s.olen := rfl
@[simp] theorem store_ibuf_ilen (i : Nat) (b : Byte) (s : State) : (store .ibuf i b s).ilen = s.ilen := rfl
@[simp] theorem store_ibuf_seq (i : Nat) (b : Byte) (s : State) : (store .ibuf i b s).seq = s.seq := rfl
@[simp] theorem store_ibuf_sleeping (i : Nat) (b : Byte) (s : State) : (store .ibuf i b s).sleeping = s.sleeping := rfl
@[simp] theorem store_ibuf_status (i : Nat) (b : Byte) (s : State) : (store .ibuf i b s).status = s.status := rfl
@[simp] theorem store_ibuf_errInfo (i : Nat) (b : Byte) (s : State) : (store .ibuf i b s).errInfo = s.errInfo := rfl
@[simp] theorem store_ibuf_cmd (i : Nat) (b : Byte) (s : State) : (store .ibuf i b s).cmd = s.cmd := rfl
@[simp] theorem store_ibuf_time (i : Nat) (b : Byte) (s : State) : (store .ibuf i b s).time = s.time := rfl
@[simp] theorem store_ibuf_obuf (i : Nat) (b : Byte) (s : State) : (store .ibuf i b s).obuf = s.obuf := rfl
@[simp] theorem store_ibuf_ibuf (i : Nat) (b : Byte) (s : State) : (store .ibuf i b s).ibuf = memSet s.ibuf i b := rfl
@[simp] theorem store_ibuf_rx (i : Nat) (b : Byte) (s : State) : (store .ibuf i b s).rx = s.rx := rfl
@[simp] theorem store_ibuf_tx (i : Nat) (b : Byte) (s : State) : (store .ibuf i b s).tx = s.tx := rfl
@[simp] theorem store_ibuf_unitIdWritten (i : Nat) (b : Byte) (s : State) : (store .ibuf i b s).unitIdWritten = s.unitIdWritten := rfl
@[simp] theorem store_ibuf_readData (i : Nat) (b : Byte) (s : State) : (store .ibuf i b s).readData = s.readData := rfl
@[simp] theorem store_ibuf_draws (i : Nat) (b : Byte) (s : State) : (store .ibuf i b s).draws = s.draws := rfl
@[simp] theorem store_ibuf_moves (i : Nat) (b : Byte) (s : State) : (store .ibuf i b s).moves = s.moves := rfl

/-! ### draw -/

@[simp] theorem draw_params (s : State) : ((draw s).2).params = s.params := rfl
@[simp] theorem draw_cfg (s : State) : ((draw s).2).cfg = s.cfg := rfl
@[simp] theorem draw_op (s : State) : ((draw s).2).op = s.op := rfl
@[simp] theorem draw_res (s : State) : ((draw s).2).res = s.res := rfl
@[simp] theorem draw_crcLo (s : State) : ((draw s).2).crcLo = s.crcLo := rfl
@[simp] theorem draw_crcHi (s : State) : ((draw s).2).crcHi = s.crcHi := rfl
@[simp] theorem draw_lrcAcc (s : State) : ((draw s).2).lrcAcc = s.lrcAcc := rfl
@[simp] theorem draw_olen (s : State) : ((draw s).2).olen = s.olen := rfl
@[simp] theorem draw_ilen (s : State) : ((draw s).2).ilen = s.ilen := rfl
@[simp] theorem draw_seq (s : State) : ((draw s).2).seq = s.seq := rfl
@[simp] theorem draw_sleeping (s : State) : ((draw s).2).sleeping = s.sleeping := rfl
@[simp] theorem draw_status (s : State) : ((draw s).2).status = s.status := rfl
@[simp] theorem draw_errInfo (s : State) : ((draw s).2).errInfo = s.errInfo := rfl
@[simp] theorem draw_cmd (s : State) : ((draw s).2).cmd = s.cmd := rfl
@[simp] theorem draw_time (s : State) : ((draw s).2).time = s.time := rfl
@[simp] theorem draw_obuf (s : State) : ((draw s).2).obuf = s.obuf := rfl
@[simp] theorem draw_ibuf (s : State) : ((draw s).2).ibuf = s.ibuf := rfl
@[simp] theorem draw_rx (s : State) : ((draw s).2).rx = s.rx := rfl
@[simp] theorem draw_tx (s : State) : ((draw s).2).tx = s.tx := rfl
@[simp] theorem draw_unitIdWritten (s : State) : ((draw s).2).unitIdWritten = s.unitIdWritten := rfl
@[simp] theorem draw_readData (s : State) : ((draw s).2).readData = s.readData := rfl
@[simp] theorem draw_draws (s : State) : ((draw s).2).draws = s.draws + 1 := rfl
@[simp] theorem draw_moves (s : State) : ((draw s).2).moves = s.moves := rfl

/-! ### txPush -/

@[simp] theorem txPush_params (bs : List Byte) (s : State) : (txPush bs s).params = s.params := rfl
@[simp] theorem txPush_cfg (bs : List Byte) (s : State) : (txPush bs s).cfg = s.cfg := rfl
@[simp] theorem txPush_op (bs : List Byte) (s : State) : (txPush bs s).op = s.op := rfl
@[simp] theorem txPush_res (bs : List Byte) (s : State) : (txPush bs s).res = s.res := rfl
@[simp] theorem txPush_crcLo (bs : List Byte) (s : State) : (txPush bs s).crcLo = s.crcLo := rfl
@[simp] theorem txPush_crcHi (bs : List Byte) (s : State) : (txPush bs s).crcHi = s.crcHi := rfl
@[simp] theorem txPush_lrcAcc (bs : List Byte) (s : State) : (txPush bs s).lrcAcc = s.lrcAcc := rfl
@[simp] theorem txPush_olen (bs : List Byte) (s : State) : (txPush bs s).olen = s.olen := rfl
@[simp] theorem txPush_ilen (bs : List Byte) (s : State) : (txPush bs s).ilen = s.ilen := rfl
@[simp] theorem txPush_seq (bs : List Byte) (s : State) : (txPush bs s).seq = s.seq := rfl
@[simp] theorem txPush_sleeping (bs : List Byte) (s : State) : (txPush bs s).sleeping = s.sleeping := rfl
@[simp] theorem txPush_status (bs : List Byte) (s : State) : (txPush bs s).status = s.status := rfl
@[simp] theorem txPush_errInfo (bs : List Byte) (s : State) : (txPush bs s).errInfo = s.errInfo := rfl
@[simp] theorem txPush_cmd (bs : List Byte) (s : State) : (txPush bs s).cmd = s.cmd := rfl
@[simp] theorem txPush_time (bs : List Byte) (s : State) : (txPush bs s).time = s.time := rfl
@[simp] theorem txPush_obuf (bs : List Byte) (s : State) : (txPush bs s).obuf = s.obuf := rfl
@[simp] theorem txPush_ibuf (bs : List Byte) (s : State) : (txPush bs s).ibuf = s.ibuf := rfl
@[simp] theorem txPush_rx (bs : List Byte) (s : State) : (txPush bs s).rx = s.rx := rfl
@[simp] theorem txPush_tx (bs : List Byte) (s : State) : (txPush bs s).tx = s.tx ++ bs := rfl
@[simp] theorem txPush_unitIdWritten (bs : List Byte) (s : State) : (txPush bs s).unitIdWritten = s.unitIdWritten := rfl
@[simp] theorem txPush_readData (bs : List Byte) (s : State) : (txPush bs s).readData = s.readData := rfl
@[simp] theorem txPush_draws (bs : List Byte) (s : State) : (txPush bs s).draws = s.draws := rfl
@[simp] theorem txPush_moves (bs : List Byte) (s : State) : (txPush bs s).moves = s.moves := rfl

/-! ### commandEntry -/

@[simp] theorem commandEntry_params (v : Byte) (s : State) : (commandEntry v s).params = s.params := rfl
@[simp] theorem commandEntry_cfg (v : Byte) (s : State) : (commandEntry v s).cfg = s.cfg := rfl
@[simp] theorem commandEntry_op (v : Byte) (s : State) : (commandEntry v s).op = s.op := rfl
@[simp] theorem commandEntry_res (v : Byte) (s : State) : (commandEntry v s).res = s.res := rfl
@[simp] theorem commandEntry_crcLo (v : Byte) (s : State) : (commandEntry v s).crcLo = s.crcLo := rfl
@[simp] theorem commandEntry_crcHi (v : Byte) (s : State) : (commandEntry v s).crcHi = s.crcHi := rfl
@[simp] theorem commandEntry_lrcAcc (v : Byte) (s : State) : (commandEntry v s).lrcAcc = s.lrcAcc := rfl
@[simp] theorem commandEntry_olen (v : Byte) (s : State) : (commandEntry v s).olen = s.olen := rfl
@[simp] theorem commandEntry_ilen (v : Byte) (s : State) : (commandEntry v s).ilen = s.ilen := rfl
@[simp] theorem commandEntry_seq (v : Byte) (s : State) : (commandEntry v s).seq = .exec := rfl
@[simp] theorem commandEntry_sleeping (v : Byte) (s : State) : (commandEntry v s).sleeping = false := rfl
@[simp] theorem commandEntry_status (v : Byte) (s : State) : (commandEntry v s).status = statusIssued s.status := rfl
@[simp] theorem commandEntry_errInfo (v : Byte) (s : State) : (commandEntry v s).errInfo = 0 := rfl
@[simp] theorem commandEntry_cmd (v : Byte) (s : State) : (commandEntry v s).cmd = v := rfl
@[simp] theorem commandEntry_time (v : Byte) (s : State) : (commandEntry v s).time = issueTime v s.time := rfl
@[simp] theorem commandEntry_obuf (v : Byte) (s : State) : (commandEntry v s).obuf = s.obuf := rfl
@[simp] theorem commandEntry_ibuf (v : Byte) (s : State) : (commandEntry v s).ibuf = s.ibuf := rfl
@[simp] theorem commandEntry_rx (v : Byte) (s : State) : (commandEntry v s).rx = s.rx := rfl
@[simp] theorem commandEntry_tx (v : Byte) (s : State) : (commandEntry v s).tx = s.tx := rfl
@[simp] theorem commandEntry_unitIdWritten (v : Byte) (s : State) : (commandEntry v s).unitIdWritten = s.unitIdWritten := rfl
@[simp] theorem commandEntry_readData (v : Byte) (s : State) : (commandEntry v s).readData = s.readData := rfl
@[simp] theorem commandEntry_draws (v : Byte) (s : State) : (commandEntry v s).draws = s.draws := rfl
@[simp] theorem commandEntry_moves (v : Byte) (s : State) : (commandEntry v s).moves = s.moves := rfl

/-! ### ended -/

@[simp] theorem ended_params (err : BitVec 4) (info : Half) (s : State) : (ended err info s).params = s.params := rfl
@[simp] theorem ended_cfg (err : BitVec 4) (info : Half) (s : State) : (ended err info s).cfg = s.cfg := rfl
@[simp] theorem ended_op (err : BitVec 4) (info : Half) (s : State) : (ended err info s).op = s.op := rfl
@[simp] theorem ended_res (err : BitVec 4) (info : Half) (s : State) : (ended err info s).res = s.res := rfl
@[simp] theorem ended_crcLo (err : BitVec 4) (info : Half) (s : State) : (ended err info s).crcLo = s.crcLo := rfl
@[simp] theorem ended_crcHi (err : BitVec 4) (info : Half) (s : State) : (ended err info s).crcHi = s.crcHi := rfl
@[simp] theorem ended_lrcAcc (err : BitVec 4) (info : Half) (s : State) : (ended err info s).lrcAcc = s.lrcAcc := rfl
@[simp] theorem ended_olen (err : BitVec 4) (info : Half) (s : State) : (ended err info s).olen = s.olen := rfl
@[simp] theorem ended_ilen (err : BitVec 4) (info : Half) (s : State) : (ended err info s).ilen = s.ilen := rfl
@[simp] theorem ended_seq (err : BitVec 4) (info : Half) (s : State) : (ended err info s).seq = .idle := rfl
@[simp] theorem ended_sleeping (err : BitVec 4) (info : Half) (s : State) : (ended err info s).sleeping = false := rfl
@[simp] theorem ended_status (err : BitVec 4) (info : Half) (s : State) : (ended err info s).status = statusEnded err s.status := rfl
@[simp] theorem ended_errInfo (err : BitVec 4) (info : Half) (s : State) : (ended err info s).errInfo = info := rfl
@[simp] theorem ended_cmd (err : BitVec 4) (info : Half) (s : State) : (ended err info s).cmd = s.cmd := rfl
@[simp] theorem ended_time (err : BitVec 4) (info : Half) (s : State) : (ended err info s).time = s.time := rfl
@[simp] theorem ended_obuf (err : BitVec 4) (info : Half) (s : State) : (ended err info s).obuf = s.obuf := rfl
@[simp] theorem ended_ibuf (err : BitVec 4) (info : Half) (s : State) : (ended err info s).ibuf = s.ibuf := rfl
@[simp] theorem ended_rx (err : BitVec 4) (info : Half) (s : State) : (ended err info s).rx = s.rx := rfl
@[simp] theorem ended_tx (err : BitVec 4) (info : Half) (s : State) : (ended err info s).tx = s.tx := rfl
@[simp] theorem ended_unitIdWritten (err : BitVec 4) (info : Half) (s : State) : (ended err info s).unitIdWritten = s.unitIdWritten := rfl
@[simp] theorem ended_readData (err : BitVec 4) (info : Half) (s : State) : (ended err info s).readData = s.readData := rfl
@[simp] theorem ended_draws (err : BitVec 4) (info : Half) (s : State) : (ended err info s).draws = s.draws := rfl
@[simp] theorem ended_moves (err : BitVec 4) (info : Half) (s : State) : (ended err info s).moves = s.moves := rfl

/-! ### sleep -/

@[simp] theorem sleep_params (s : State) : (sleep s).params = s.params := rfl
@[simp] theorem sleep_cfg (s : State) : (sleep s).cfg = s.cfg := rfl
@[simp] theorem sleep_op (s : State) : (sleep s).op = s.op := rfl
@[simp] theorem sleep_res (s : State) : (sleep s).res = s.res := rfl
@[simp] theorem sleep_crcLo (s : State) : (sleep s).crcLo = s.crcLo := rfl
@[simp] theorem sleep_crcHi (s : State) : (sleep s).crcHi = s.crcHi := rfl
@[simp] theorem sleep_lrcAcc (s : State) : (sleep s).lrcAcc = s.lrcAcc := rfl
@[simp] theorem sleep_olen (s : State) : (sleep s).olen = s.olen := rfl
@[simp] theorem sleep_ilen (s : State) : (sleep s).ilen = s.ilen := rfl
@[simp] theorem sleep_seq (s : State) : (sleep s).seq = s.seq := rfl
@[simp] theorem sleep_sleeping (s : State) : (sleep s).sleeping = true := rfl
@[simp] theorem sleep_status (s : State) : (sleep s).status = s.status := rfl
@[simp] theorem sleep_errInfo (s : State) : (sleep s).errInfo = s.errInfo := rfl
@[simp] theorem sleep_cmd (s : State) : (sleep s).cmd = s.cmd := rfl
@[simp] theorem sleep_time (s : State) : (sleep s).time = { s.time with tNext := s.time.now + Config.pollMs } := rfl
@[simp] theorem sleep_obuf (s : State) : (sleep s).obuf = s.obuf := rfl
@[simp] theorem sleep_ibuf (s : State) : (sleep s).ibuf = s.ibuf := rfl
@[simp] theorem sleep_rx (s : State) : (sleep s).rx = s.rx := rfl
@[simp] theorem sleep_tx (s : State) : (sleep s).tx = s.tx := rfl
@[simp] theorem sleep_unitIdWritten (s : State) : (sleep s).unitIdWritten = s.unitIdWritten := rfl
@[simp] theorem sleep_readData (s : State) : (sleep s).readData = s.readData := rfl
@[simp] theorem sleep_draws (s : State) : (sleep s).draws = s.draws := rfl
@[simp] theorem sleep_moves (s : State) : (sleep s).moves = s.moves := rfl

/-! ### beginRead -/

@[simp] theorem beginRead_params (q : Seq) (s : State) : (beginRead q s).params = s.params := rfl
@[simp] theorem beginRead_cfg (q : Seq) (s : State) : (beginRead q s).cfg = s.cfg := rfl
@[simp] theorem beginRead_op (q : Seq) (s : State) : (beginRead q s).op = s.op := rfl
@[simp] theorem beginRead_res (q : Seq) (s : State) : (beginRead q s).res = s.res := rfl
@[simp] theorem beginRead_crcLo (q : Seq) (s : State) : (beginRead q s).crcLo = s.crcLo := rfl
@[simp] theorem beginRead_crcHi (q : Seq) (s : State) : (beginRead q s).crcHi = s.crcHi := rfl
@[simp] theorem beginRead_lrcAcc (q : Seq) (s : State) : (beginRead q s).lrcAcc = s.lrcAcc := rfl
@[simp] theorem beginRead_olen (q : Seq) (s : State) : (beginRead q s).olen = s.olen := rfl
@[simp] theorem beginRead_ilen (q : Seq) (s : State) : (beginRead q s).ilen = s.ilen := rfl
@[simp] theorem beginRead_seq (q : Seq) (s : State) : (beginRead q s).seq = q := rfl
@[simp] theorem beginRead_sleeping (q : Seq) (s : State) : (beginRead q s).sleeping = false := rfl
@[simp] theorem beginRead_status (q : Seq) (s : State) : (beginRead q s).status = s.status := rfl
@[simp] theorem beginRead_errInfo (q : Seq) (s : State) : (beginRead q s).errInfo = s.errInfo := rfl
@[simp] theorem beginRead_cmd (q : Seq) (s : State) : (beginRead q s).cmd = s.cmd := rfl
@[simp] theorem beginRead_time (q : Seq) (s : State) : (beginRead q s).time = { s.time with t0Read := s.time.now } := rfl
@[simp] theorem beginRead_obuf (q : Seq) (s : State) : (beginRead q s).obuf = s.obuf := rfl
@[simp] theorem beginRead_ibuf (q : Seq) (s : State) : (beginRead q s).ibuf = s.ibuf := rfl
@[simp] theorem beginRead_rx (q : Seq) (s : State) : (beginRead q s).rx = s.rx := rfl
@[simp] theorem beginRead_tx (q : Seq) (s : State) : (beginRead q s).tx = s.tx := rfl
@[simp] theorem beginRead_unitIdWritten (q : Seq) (s : State) : (beginRead q s).unitIdWritten = s.unitIdWritten := rfl
@[simp] theorem beginRead_readData (q : Seq) (s : State) : (beginRead q s).readData = s.readData := rfl
@[simp] theorem beginRead_draws (q : Seq) (s : State) : (beginRead q s).draws = s.draws := rfl
@[simp] theorem beginRead_moves (q : Seq) (s : State) : (beginRead q s).moves = s.moves := rfl

/-! ### beginPhase -/

@[simp] theorem beginPhase_params (q : Seq) (s : State) : (beginPhase q s).params = s.params := rfl
@[simp] theorem beginPhase_cfg (q : Seq) (s : State) : (beginPhase q s).cfg = s.cfg := rfl
@[simp] theorem beginPhase_op (q : Seq) (s : State) : (beginPhase q s).op = s.op := rfl
@[simp] theorem beginPhase_res (q : Seq) (s : State) : (beginPhase q s).res = s.res := rfl
@[simp] theorem beginPhase_crcLo (q : Seq) (s : State) : (beginPhase q s).crcLo = s.crcLo := rfl
@[simp] theorem beginPhase_crcHi (q : Seq) (s : State) : (beginPhase q s).crcHi = s.crcHi := rfl
@[simp] theorem beginPhase_lrcAcc (q : Seq) (s : State) : (beginPhase q s).lrcAcc = s.lrcAcc := rfl
@[simp] theorem beginPhase_olen (q : Seq) (s : State) : (beginPhase q s).olen = s.olen := rfl
@[simp] theorem beginPhase_ilen (q : Seq) (s : State) : (beginPhase q s).ilen = s.ilen := rfl
@[simp] theorem beginPhase_seq (q : Seq) (s : State) : (beginPhase q s).seq = q := rfl
@[simp] theorem beginPhase_sleeping (q : Seq) (s : State) : (beginPhase q s).sleeping = false := rfl
@[simp] theorem beginPhase_status (q : Seq) (s : State) : (beginPhase q s).status = s.status := rfl
@[simp] theorem beginPhase_errInfo (q : Seq) (s : State) : (beginPhase q s).errInfo = s.errInfo := rfl
@[simp] theorem beginPhase_cmd (q : Seq) (s : State) : (beginPhase q s).cmd = s.cmd := rfl
@[simp] theorem beginPhase_time (q : Seq) (s : State) : (beginPhase q s).time = { s.time with t0Phase := s.time.now } := rfl
@[simp] theorem beginPhase_obuf (q : Seq) (s : State) : (beginPhase q s).obuf = s.obuf := rfl
@[simp] theorem beginPhase_ibuf (q : Seq) (s : State) : (beginPhase q s).ibuf = s.ibuf := rfl
@[simp] theorem beginPhase_rx (q : Seq) (s : State) : (beginPhase q s).rx = s.rx := rfl
@[simp] theorem beginPhase_tx (q : Seq) (s : State) : (beginPhase q s).tx = s.tx := rfl
@[simp] theorem beginPhase_unitIdWritten (q : Seq) (s : State) : (beginPhase q s).unitIdWritten = s.unitIdWritten := rfl
@[simp] theorem beginPhase_readData (q : Seq) (s : State) : (beginPhase q s).readData = s.readData := rfl
@[simp] theorem beginPhase_draws (q : Seq) (s : State) : (beginPhase q s).draws = s.draws := rfl
@[simp] theorem beginPhase_moves (q : Seq) (s : State) : (beginPhase q s).moves = s.moves := rfl

/-! ### popped -/

@[simp] theorem popped_params (rest : List Byte) (s : State) : (popped rest s).params = s.params := rfl
@[simp] theorem popped_cfg (rest : List Byte) (s : State) : (popped rest s).cfg = s.cfg := rfl
@[simp] theorem popped_op (rest : List Byte) (s : State) : (popped rest s).op = s.op := rfl
@[simp] theorem popped_res (rest : List Byte) (s : State) : (popped rest s).res = s.res := rfl
@[simp] theorem popped_crcLo (rest : List Byte) (s : State) : (popped rest s).crcLo = s.crcLo := rfl
@[simp] theorem popped_crcHi (rest : List Byte) (s : State) : (popped rest s).crcHi = s.crcHi := rfl
@[simp] theorem popped_lrcAcc (rest : List Byte) (s : State) : (popped rest s).lrcAcc = s.lrcAcc := rfl
@[simp] theorem popped_olen (rest : List Byte) (s : State) : (popped rest s).olen = s.olen := rfl
@[simp] theorem popped_ilen (rest : List Byte) (s : State) : (popped rest s).ilen = s.ilen := rfl
@[simp] theorem popped_seq (rest : List Byte) (s : State) : (popped rest s).seq = s.seq := rfl
@[simp] theorem popped_sleeping (rest : List Byte) (s : State) : (popped rest s).sleeping = false := rfl
@[simp] theorem popped_status (rest : List Byte) (s : State) : (popped rest s).status = s.status := rfl
@[simp] theorem popped_errInfo (rest : List Byte) (s : State) : (popped rest s).errInfo = s.errInfo := rfl
@[simp] theorem popped_cmd (rest : List Byte) (s : State) : (popped rest s).cmd = s.cmd := rfl
@[simp] theorem popped_time (rest : List Byte) (s : State) : (popped rest s).time = s.time := rfl
@[simp] theorem popped_obuf (rest : List Byte) (s : State) : (popped rest s).obuf = s.obuf := rfl
@[simp] theorem popped_ibuf (rest : List Byte) (s : State) : (popped rest s).ibuf = s.ibuf := rfl
@[simp] theorem popped_rx (rest : List Byte) (s : State) : (popped rest s).rx = rest := rfl
@[simp] theorem popped_tx (rest : List Byte) (s : State) : (popped rest s).tx = s.tx := rfl
@[simp] theorem popped_unitIdWritten (rest : List Byte) (s : State) : (popped rest s).unitIdWritten = s.unitIdWritten := rfl
@[simp] theorem popped_readData (rest : List Byte) (s : State) : (popped rest s).readData = s.readData := rfl
@[simp] theorem popped_draws (rest : List Byte) (s : State) : (popped rest s).draws = s.draws := rfl
@[simp] theorem popped_moves (rest : List Byte) (s : State) : (popped rest s).moves = s.moves := rfl

/-! ### tick -/

@[simp] theorem tick_params (s : State) : (tick s).params = s.params := rfl
@[simp] theorem tick_cfg (s : State) : (tick s).cfg = s.cfg := rfl
@[simp] theorem tick_op (s : State) : (tick s).op = s.op := rfl
@[simp] theorem tick_res (s : State) : (tick s).res = s.res := rfl
@[simp] theorem tick_crcLo (s : State) : (tick s).crcLo = s.crcLo := rfl
@[simp] theorem tick_crcHi (s : State) : (tick s).crcHi = s.crcHi := rfl
@[simp] theorem tick_lrcAcc (s : State) : (tick s).lrcAcc = s.lrcAcc := rfl
@[simp] theorem tick_olen (s : State) : (tick s).olen = s.olen := rfl
@[simp] theorem tick_ilen (s : State) : (tick s).ilen = s.ilen := rfl
@[simp] theorem tick_seq (s : State) : (tick s).seq = s.seq := rfl
@[simp] theorem tick_sleeping (s : State) : (tick s).sleeping = s.sleeping := rfl
@[simp] theorem tick_status (s : State) : (tick s).status = s.status := rfl
@[simp] theorem tick_errInfo (s : State) : (tick s).errInfo = s.errInfo := rfl
@[simp] theorem tick_cmd (s : State) : (tick s).cmd = s.cmd := rfl
@[simp] theorem tick_time (s : State) : (tick s).time = { s.time with now := s.time.now + 1 } := rfl
@[simp] theorem tick_obuf (s : State) : (tick s).obuf = s.obuf := rfl
@[simp] theorem tick_ibuf (s : State) : (tick s).ibuf = s.ibuf := rfl
@[simp] theorem tick_rx (s : State) : (tick s).rx = s.rx := rfl
@[simp] theorem tick_tx (s : State) : (tick s).tx = s.tx := rfl
@[simp] theorem tick_unitIdWritten (s : State) : (tick s).unitIdWritten = s.unitIdWritten := rfl
@[simp] theorem tick_readData (s : State) : (tick s).readData = s.readData := rfl
@[simp] theorem tick_draws (s : State) : (tick s).draws = s.draws := rfl
@[simp] theorem tick_moves (s : State) : (tick s).moves = s.moves := rfl

/-! ### setCrc -/

@[simp] theorem setCrc_params (r : Byte × Byte) (s : State) : (setCrc r s).params = s.params := rfl
@[simp] theorem setCrc_cfg (r : Byte × Byte) (s : State) : (setCrc r s).cfg = s.cfg := rfl
@[simp] theorem setCrc_op (r : Byte × Byte) (s : State) : (setCrc r s).op = s.op := rfl
@[simp] theorem setCrc_res (r : Byte × Byte) (s : State) : (setCrc r s).res = s.res := rfl
@[simp] theorem setCrc_crcLo (r : Byte × Byte) (s : State) : (setCrc r s).crcLo = r.1 := rfl
@[simp] theorem setCrc_crcHi (r : Byte × Byte) (s : State) : (setCrc r s).crcHi = r.2 := rfl
@[simp] theorem setCrc_lrcAcc (r : Byte × Byte) (s : State) : (setCrc r s).lrcAcc = s.lrcAcc := rfl
@[simp] theorem setCrc_olen (r : Byte × Byte) (s : State) : (setCrc r s).olen = s.olen := rfl
@[simp] theorem setCrc_ilen (r : Byte × Byte) (s : State) : (setCrc r s).ilen = s.ilen := rfl
@[simp] theorem setCrc_seq (r : Byte × Byte) (s : State) : (setCrc r s).seq = s.seq := rfl
@[simp] theorem setCrc_sleeping (r : Byte × Byte) (s : State) : (setCrc r s).sleeping = s.sleeping := rfl
@[simp] theorem setCrc_status (r : Byte × Byte) (s : State) : (setCrc r s).status = s.status := rfl
@[simp] theorem setCrc_errInfo (r : Byte × Byte) (s : State) : (setCrc r s).errInfo = s.errInfo := rfl
@[simp] theorem setCrc_cmd (r : Byte × Byte) (s : State) : (setCrc r s).cmd = s.cmd := rfl
@[simp] theorem setCrc_time (r : Byte × Byte) (s : State) : (setCrc r s).time = s.time := rfl
@[simp] theorem setCrc_obuf (r : Byte × Byte) (s : State) : (setCrc r s).obuf = s.obuf := rfl
@[simp] theorem setCrc_ibuf (r : Byte × Byte) (s : State) : (setCrc r s).ibuf = s.ibuf := rfl
@[simp] theorem setCrc_rx (r : Byte × Byte) (s : State) : (setCrc r s).rx = s.rx := rfl
@[simp] theorem setCrc_tx (r : Byte × Byte) (s : State) : (setCrc r s).tx = s.tx := rfl
@[simp] theorem setCrc_unitIdWritten (r : Byte × Byte) (s : State) : (setCrc r s).unitIdWritten = s.unitIdWritten := rfl
@[simp] theorem setCrc_readData (r : Byte × Byte) (s : State) : (setCrc r s).readData = s.readData := rfl
@[simp] theorem setCrc_draws (r : Byte × Byte) (s : State) : (setCrc r s).draws = s.draws := rfl
@[simp] theorem setCrc_moves (r : Byte × Byte) (s : State) : (setCrc r s).moves = s.moves := rfl

/-! ### hostViolation -/

@[simp] theorem hostViolation_params (s : State) : (hostViolation s).params = s.params := rfl
@[simp] theorem hostViolation_cfg (s : State) : (hostViolation s).cfg = s.cfg := rfl
@[simp] theorem hostViolation_op (s : State) : (hostViolation s).op = s.op := rfl
@[simp] theorem hostViolation_res (s : State) : (hostViolation s).res = s.res := rfl
@[simp] theorem hostViolation_crcLo (s : State) : (hostViolation s).crcLo = s.crcLo := rfl
@[simp] theorem hostViolation_crcHi (s : State) : (hostViolation s).crcHi = s.crcHi := rfl
@[simp] theorem hostViolation_lrcAcc (s : State) : (hostViolation s).lrcAcc = s.lrcAcc := rfl
@[simp] theorem hostViolation_olen (s : State) : (hostViolation s).olen = s.olen := rfl
@[simp] theorem hostViolation_ilen (s : State) : (hostViolation s).ilen = s.ilen := rfl
@[simp] theorem hostViolation_seq (s : State) : (hostViolation s).seq = s.seq := rfl
@[simp] theorem hostViolation_sleeping (s : State) : (hostViolation s).sleeping = s.sleeping := rfl
@[simp] theorem hostViolation_status (s : State) : (hostViolation s).status = statusSetHostViol s.status := rfl
@[simp] theorem hostViolation_errInfo (s : State) : (hostViolation s).errInfo = s.errInfo := rfl
@[simp] theorem hostViolation_cmd (s : State) : (hostViolation s).cmd = s.cmd := rfl
@[simp] theorem hostViolation_time (s : State) : (hostViolation s).time = s.time := rfl
@[simp] theorem hostViolation_obuf (s : State) : (hostViolation s).obuf = s.obuf := rfl
@[simp] theorem hostViolation_ibuf (s : State) : (hostViolation s).ibuf = s.ibuf := rfl
@[simp] theorem hostViolation_rx (s : State) : (hostViolation s).rx = s.rx := rfl
@[simp] theorem hostViolation_tx (s : State) : (hostViolation s).tx = s.tx := rfl
@[simp] theorem hostViolation_unitIdWritten (s : State) : (hostViolation s).unitIdWritten = s.unitIdWritten := rfl
@[simp] theorem hostViolation_readData (s : State) : (hostViolation s).readData = s.readData := rfl
@[simp] theorem hostViolation_draws (s : State) : (hostViolation s).draws = s.draws := rfl
@[simp] theorem hostViolation_moves (s : State) : (hostViolation s).moves = s.moves := rfl

/-! ### lineRx -/

@[simp] theorem lineRx_params (b : Byte) (s : State) : (lineRx b s).params = s.params := rfl
@[simp] theorem lineRx_cfg (b : Byte) (s : State) : (lineRx b s).cfg = s.cfg := rfl
@[simp] theorem lineRx_op (b : Byte) (s : State) : (lineRx b s).op = s.op := rfl
@[simp] theorem lineRx_res (b : Byte) (s : State) : (lineRx b s).res = s.res := rfl
@[simp] theorem lineRx_crcLo (b : Byte) (s : State) : (lineRx b s).crcLo = s.crcLo := rfl
@[simp] theorem lineRx_crcHi (b : Byte) (s : State) : (lineRx b s).crcHi = s.crcHi := rfl
@[simp] theorem lineRx_lrcAcc (b : Byte) (s : State) : (lineRx b s).lrcAcc = s.lrcAcc := rfl
@[simp] theorem lineRx_olen (b : Byte) (s : State) : (lineRx b s).olen = s.olen := rfl
@[simp] theorem lineRx_ilen (b : Byte) (s : State) : (lineRx b s).ilen = s.ilen := rfl
@[simp] theorem lineRx_seq (b : Byte) (s : State) : (lineRx b s).seq = s.seq := rfl
@[simp] theorem lineRx_sleeping (b : Byte) (s : State) : (lineRx b s).sleeping = s.sleeping := rfl
@[simp] theorem lineRx_status (b : Byte) (s : State) : (lineRx b s).status = s.status := rfl
@[simp] theorem lineRx_errInfo (b : Byte) (s : State) : (lineRx b s).errInfo = s.errInfo := rfl
@[simp] theorem lineRx_cmd (b : Byte) (s : State) : (lineRx b s).cmd = s.cmd := rfl
@[simp] theorem lineRx_time (b : Byte) (s : State) : (lineRx b s).time = s.time := rfl
@[simp] theorem lineRx_obuf (b : Byte) (s : State) : (lineRx b s).obuf = s.obuf := rfl
@[simp] theorem lineRx_ibuf (b : Byte) (s : State) : (lineRx b s).ibuf = s.ibuf := rfl
@[simp] theorem lineRx_rx (b : Byte) (s : State) : (lineRx b s).rx = s.rx ++ [b] := rfl
@[simp] theorem lineRx_tx (b : Byte) (s : State) : (lineRx b s).tx = s.tx := rfl
@[simp] theorem lineRx_unitIdWritten (b : Byte) (s : State) : (lineRx b s).unitIdWritten = s.unitIdWritten := rfl
@[simp] theorem lineRx_readData (b : Byte) (s : State) : (lineRx b s).readData = s.readData := rfl
@[simp] theorem lineRx_draws (b : Byte) (s : State) : (lineRx b s).draws = s.draws := rfl
@[simp] theorem lineRx_moves (b : Byte) (s : State) : (lineRx b s).moves = s.moves := rfl

/-! ### lineTx -/

@[simp] theorem lineTx_params (s : State) : (lineTx s).params = s.params := rfl
@[simp] theorem lineTx_cfg (s : State) : (lineTx s).cfg = s.cfg := rfl
@[simp] theorem lineTx_op (s : State) : (lineTx s).op = s.op := rfl
@[simp] theorem lineTx_res (s : State) : (lineTx s).res = s.res := rfl
@[simp] theorem lineTx_crcLo (s : State) : (lineTx s).crcLo = s.crcLo := rfl
@[simp] theorem lineTx_crcHi (s : State) : (lineTx s).crcHi = s.crcHi := rfl
@[simp] theorem lineTx_lrcAcc (s : State) : (lineTx s).lrcAcc = s.lrcAcc := rfl
@[simp] theorem lineTx_olen (s : State) : (lineTx s).olen = s.olen := rfl
@[simp] theorem lineTx_ilen (s : State) : (lineTx s).ilen = s.ilen := rfl
@[simp] theorem lineTx_seq (s : State) : (lineTx s).seq = s.seq := rfl
@[simp] theorem lineTx_sleeping (s : State) : (lineTx s).sleeping = s.sleeping := rfl
@[simp] theorem lineTx_status (s : State) : (lineTx s).status = s.status := rfl
@[simp] theorem lineTx_errInfo (s : State) : (lineTx s).errInfo = s.errInfo := rfl
@[simp] theorem lineTx_cmd (s : State) : (lineTx s).cmd = s.cmd := rfl
@[simp] theorem lineTx_time (s : State) : (lineTx s).time = s.time := rfl
@[simp] theorem lineTx_obuf (s : State) : (lineTx s).obuf = s.obuf := rfl
@[simp] theorem lineTx_ibuf (s : State) : (lineTx s).ibuf = s.ibuf := rfl
@[simp] theorem lineTx_rx (s : State) : (lineTx s).rx = s.rx := rfl
@[simp] theorem lineTx_tx (s : State) : (lineTx s).tx = s.tx.tail := rfl
@[simp] theorem lineTx_unitIdWritten (s : State) : (lineTx s).unitIdWritten = s.unitIdWritten := rfl
@[simp] theorem lineTx_readData (s : State) : (lineTx s).readData = s.readData := rfl
@[simp] theorem lineTx_draws (s : State) : (lineTx s).draws = s.draws := rfl
@[simp] theorem lineTx_moves (s : State) : (lineTx s).moves = s.moves := rfl

/-! ### lineEcho -/

@[simp] theorem lineEcho_params (s : State) : (lineEcho s).params = s.params := rfl
@[simp] theorem lineEcho_cfg (s : State) : (lineEcho s).cfg = s.cfg := rfl
@[simp] theorem lineEcho_op (s : State) : (lineEcho s).op = s.op := rfl
@[simp] theorem lineEcho_res (s : State) : (lineEcho s).res = s.res := rfl
@[simp] theorem lineEcho_crcLo (s : State) : (lineEcho s).crcLo = s.crcLo := rfl
@[simp] theorem lineEcho_crcHi (s : State) : (lineEcho s).crcHi = s.crcHi := rfl
@[simp] theorem lineEcho_lrcAcc (s : State) : (lineEcho s).lrcAcc = s.lrcAcc := rfl
@[simp] theorem lineEcho_olen (s : State) : (lineEcho s).olen = s.olen := rfl
@[simp] theorem lineEcho_ilen (s : State) : (lineEcho s).ilen = s.ilen := rfl
@[simp] theorem lineEcho_seq (s : State) : (lineEcho s).seq = s.seq := rfl
@[simp] theorem lineEcho_sleeping (s : State) : (lineEcho s).sleeping = s.sleeping := rfl
@[simp] theorem lineEcho_status (s : State) : (lineEcho s).status = s.status := rfl
@[simp] theorem lineEcho_errInfo (s : State) : (lineEcho s).errInfo = s.errInfo := rfl
@[simp] theorem lineEcho_cmd (s : State) : (lineEcho s).cmd = s.cmd := rfl
@[simp] theorem lineEcho_time (s : State) : (lineEcho s).time = s.time := rfl
@[simp] theorem lineEcho_obuf (s : State) : (lineEcho s).obuf = s.obuf := rfl
@[simp] theorem lineEcho_ibuf (s : State) : (lineEcho s).ibuf = s.ibuf := rfl
@[simp] theorem lineEcho_rx (s : State) : (lineEcho s).rx = s.rx ++ s.tx.take 1 := rfl
@[simp] theorem lineEcho_tx (s : State) : (lineEcho s).tx = s.tx.tail := rfl
@[simp] theorem lineEcho_unitIdWritten (s : State) : (lineEcho s).unitIdWritten = s.unitIdWritten := rfl
@[simp] theorem lineEcho_readData (s : State) : (lineEcho s).readData = s.readData := rfl
@[simp] theorem lineEcho_draws (s : State) : (lineEcho s).draws = s.draws := rfl
@[simp] theorem lineEcho_moves (s : State) : (lineEcho s).moves = s.moves := rfl

end Sys2Proof.Machine
end

