-- ==== Sys2Proof/Laws/Memory.lean ====
section
/-! SUPPORT. Laws/Memory: reading after writing, and the canonical form of a buffer's content, which every memory
operation keeps. -/

namespace Sys2Proof.Machine

/-- A written byte reads back. -/
theorem memGet_memSet_same (m : Memory) (i : Nat) (b : Byte) : memGet (memSet m i b) i = some b := by
  induction m with
  | nil => simp [memSet, memGet]
  | cons c rest ih =>
    simp only [memSet]
    split
    · simp [memGet]
    · split
      · simp [memGet]
      · rename_i h
        simp [memGet, Ne.symm h, ih]

/-- A write leaves every other byte alone. -/
theorem memGet_memSet_other (m : Memory) (i j : Nat) (b : Byte) (h : j ≠ i) :
    memGet (memSet m i b) j = memGet m j := by
  induction m with
  | nil => simp [memSet, memGet, Ne.symm h]
  | cons c rest ih =>
    simp only [memSet]
    split
    · simp [memGet, Ne.symm h]
    · split
      · rename_i hc
        subst hc
        simp [memGet, Ne.symm h]
      · simp [memGet, ih]

/-- Reading after a write. -/
theorem memGet_memSet (m : Memory) (i j : Nat) (b : Byte) :
    memGet (memSet m i b) j = if j = i then some b else memGet m j := by
  split
  · rename_i h
    rw [h, memGet_memSet_same]
  · rename_i h
    exact memGet_memSet_other m i j b h

/-- What a canonical form with a first entry says. -/
theorem wf_cons (c : Host.Cell) (m : Memory) :
    Memory.wf (c :: m) = true ↔ (∀ d ∈ m.head?, c.1 < d.1) ∧ Memory.wf m = true := by
  cases m with
  | nil => simp [Memory.wf]
  | cons d rest => simp [Memory.wf]

/-- The first entry after a write is the written byte or the first entry before it. -/
theorem head_memSet (m : Memory) (i : Nat) (b : Byte) :
    (memSet m i b).head? = some (i, b) ∨ (memSet m i b).head? = m.head? ∧ ∀ d ∈ m.head?, d.1 < i := by
  cases m with
  | nil => simp [memSet]
  | cons c rest =>
    simp only [memSet]
    split
    · simp
    · split
      · simp
      · right
        simp
        omega

/-- A write keeps the canonical form. -/
theorem wf_memSet (m : Memory) (i : Nat) (b : Byte) (h : Memory.wf m = true) : Memory.wf (memSet m i b) = true := by
  induction m with
  | nil => rfl
  | cons c rest ih =>
    obtain ⟨hc, hr⟩ := (wf_cons c rest).1 h
    simp only [memSet]
    split
    · rename_i hi
      exact (wf_cons _ _).2 ⟨by simpa using hi, h⟩
    · split
      · rename_i hi
        exact (wf_cons _ _).2 ⟨by simpa [hi] using hc, hr⟩
      · refine (wf_cons _ _).2 ⟨?_, ih hr⟩
        rcases head_memSet rest i b with hh | ⟨hh, -⟩ <;> rw [hh]
        · simp; omega
        · exact hc

/-- A write inside the buffer keeps every entry inside it. -/
theorem all_lt_memSet (m : Memory) (i size : Nat) (b : Byte) (hi : i < size)
    (h : m.all (fun c => decide (c.1 < size)) = true) : (memSet m i b).all (fun c => decide (c.1 < size)) = true := by
  induction m with
  | nil => simpa [memSet] using hi
  | cons c rest ih =>
    simp only [List.all_cons, Bool.and_eq_true, decide_eq_true_eq] at h
    simp only [memSet]
    split
    · simp [hi, h]
    · split
      · simp [hi, h]
      · simp [h.1, ih h.2]

/-- A write inside the buffer keeps its content in canonical form and inside it. -/
theorem memoryOk_memSet (m : Memory) (i size : Nat) (b : Byte) (hi : i < size)
    (h : (Memory.wf m && m.all (fun c => decide (c.1 < size))) = true) :
    (Memory.wf (memSet m i b) && (memSet m i b).all (fun c => decide (c.1 < size))) = true := by
  simp only [Bool.and_eq_true] at h ⊢
  exact ⟨wf_memSet m i b h.1, all_lt_memSet m i size b hi h.2⟩

/-! ### Bytes of a space after a store -/

@[simp] theorem memOf_obuf (s : State) : memOf .obuf s = s.obuf := rfl
@[simp] theorem memOf_ibuf (s : State) : memOf .ibuf s = s.ibuf := rfl

/-- The byte stored reads back, and every other byte of either space reads as before. -/
theorem byteAt_store (sp sp' : Space) (i j : Nat) (b : Byte) (s : State) :
    byteAt sp' j (store sp i b s) = if sp' = sp ∧ j = i then some b else byteAt sp' j s := by
  cases sp <;> cases sp' <;> simp [byteAt, memGet_memSet]

/-- Bytes are read from the buffers alone. -/
theorem byteAt_congr (sp : Space) (i : Nat) (s t : State) (ho : t.obuf = s.obuf) (hi : t.ibuf = s.ibuf) :
    byteAt sp i t = byteAt sp i s := by
  cases sp <;> simp [byteAt, ho, hi]

end Sys2Proof.Machine
end

