-- ==== Sys2Proof/Laws/Fetch.lean ====
section
/-! SUPPORT. Laws/Fetch: reading bytes: a read changes only the count of free values, a written byte reads as it
stands, and any other byte reads as some value. -/

namespace Sys2Proof.Machine

/-! ### One byte -/

/-- A read changes only the count of free values. -/
theorem fetch_state (sp : Space) (i : Nat) (s : State) :
    (fetch sp i s).2 = { s with draws := (fetch sp i s).2.draws } := by
  unfold fetch
  split <;> rfl

/-- A written byte reads as it stands, and nothing changes. -/
theorem fetch_written (sp : Space) (i : Nat) (b : Byte) (s : State) (h : byteAt sp i s = some b) :
    fetch sp i s = (b, s) := by
  unfold fetch
  rw [h]

@[simp] theorem fetch_params (sp : Space) (i : Nat) (s : State) : (fetch sp i s).2.params = s.params := by
  rw [fetch_state]
@[simp] theorem fetch_cfg (sp : Space) (i : Nat) (s : State) : (fetch sp i s).2.cfg = s.cfg := by
  rw [fetch_state]
@[simp] theorem fetch_op (sp : Space) (i : Nat) (s : State) : (fetch sp i s).2.op = s.op := by
  rw [fetch_state]
@[simp] theorem fetch_res (sp : Space) (i : Nat) (s : State) : (fetch sp i s).2.res = s.res := by
  rw [fetch_state]
@[simp] theorem fetch_crcLo (sp : Space) (i : Nat) (s : State) : (fetch sp i s).2.crcLo = s.crcLo := by
  rw [fetch_state]
@[simp] theorem fetch_crcHi (sp : Space) (i : Nat) (s : State) : (fetch sp i s).2.crcHi = s.crcHi := by
  rw [fetch_state]
@[simp] theorem fetch_lrcAcc (sp : Space) (i : Nat) (s : State) : (fetch sp i s).2.lrcAcc = s.lrcAcc := by
  rw [fetch_state]
@[simp] theorem fetch_olen (sp : Space) (i : Nat) (s : State) : (fetch sp i s).2.olen = s.olen := by
  rw [fetch_state]
@[simp] theorem fetch_ilen (sp : Space) (i : Nat) (s : State) : (fetch sp i s).2.ilen = s.ilen := by
  rw [fetch_state]
@[simp] theorem fetch_seq (sp : Space) (i : Nat) (s : State) : (fetch sp i s).2.seq = s.seq := by
  rw [fetch_state]
@[simp] theorem fetch_sleeping (sp : Space) (i : Nat) (s : State) : (fetch sp i s).2.sleeping = s.sleeping := by
  rw [fetch_state]
@[simp] theorem fetch_status (sp : Space) (i : Nat) (s : State) : (fetch sp i s).2.status = s.status := by
  rw [fetch_state]
@[simp] theorem fetch_errInfo (sp : Space) (i : Nat) (s : State) : (fetch sp i s).2.errInfo = s.errInfo := by
  rw [fetch_state]
@[simp] theorem fetch_cmd (sp : Space) (i : Nat) (s : State) : (fetch sp i s).2.cmd = s.cmd := by
  rw [fetch_state]
@[simp] theorem fetch_time (sp : Space) (i : Nat) (s : State) : (fetch sp i s).2.time = s.time := by
  rw [fetch_state]
@[simp] theorem fetch_obuf (sp : Space) (i : Nat) (s : State) : (fetch sp i s).2.obuf = s.obuf := by
  rw [fetch_state]
@[simp] theorem fetch_ibuf (sp : Space) (i : Nat) (s : State) : (fetch sp i s).2.ibuf = s.ibuf := by
  rw [fetch_state]
@[simp] theorem fetch_rx (sp : Space) (i : Nat) (s : State) : (fetch sp i s).2.rx = s.rx := by
  rw [fetch_state]
@[simp] theorem fetch_tx (sp : Space) (i : Nat) (s : State) : (fetch sp i s).2.tx = s.tx := by
  rw [fetch_state]
@[simp] theorem fetch_unitIdWritten (sp : Space) (i : Nat) (s : State) : (fetch sp i s).2.unitIdWritten = s.unitIdWritten := by
  rw [fetch_state]
@[simp] theorem fetch_readData (sp : Space) (i : Nat) (s : State) : (fetch sp i s).2.readData = s.readData := by
  rw [fetch_state]
@[simp] theorem fetch_moves (sp : Space) (i : Nat) (s : State) : (fetch sp i s).2.moves = s.moves := by
  rw [fetch_state]

@[simp] theorem byteAt_fetch (sp sp' : Space) (i j : Nat) (s : State) :
    byteAt sp' j (fetch sp i s).2 = byteAt sp' j s :=
  byteAt_congr _ _ _ _ (by simp) (by simp)

/-! ### Several bytes -/

/-- Reading bytes changes only the count of free values. -/
theorem fetchBytes_state (sp : Space) (i n : Nat) (s : State) :
    (fetchBytes sp i n s).2 = { s with draws := (fetchBytes sp i n s).2.draws } := by
  induction n generalizing i s with
  | zero => rfl
  | succ n ih =>
    simp only [fetchBytes]
    rw [ih, fetch_state]

@[simp] theorem fetchBytes_params (sp : Space) (i n : Nat) (s : State) : (fetchBytes sp i n s).2.params = s.params := by
  rw [fetchBytes_state]
@[simp] theorem fetchBytes_cfg (sp : Space) (i n : Nat) (s : State) : (fetchBytes sp i n s).2.cfg = s.cfg := by
  rw [fetchBytes_state]
@[simp] theorem fetchBytes_op (sp : Space) (i n : Nat) (s : State) : (fetchBytes sp i n s).2.op = s.op := by
  rw [fetchBytes_state]
@[simp] theorem fetchBytes_res (sp : Space) (i n : Nat) (s : State) : (fetchBytes sp i n s).2.res = s.res := by
  rw [fetchBytes_state]
@[simp] theorem fetchBytes_crcLo (sp : Space) (i n : Nat) (s : State) : (fetchBytes sp i n s).2.crcLo = s.crcLo := by
  rw [fetchBytes_state]
@[simp] theorem fetchBytes_crcHi (sp : Space) (i n : Nat) (s : State) : (fetchBytes sp i n s).2.crcHi = s.crcHi := by
  rw [fetchBytes_state]
@[simp] theorem fetchBytes_lrcAcc (sp : Space) (i n : Nat) (s : State) : (fetchBytes sp i n s).2.lrcAcc = s.lrcAcc := by
  rw [fetchBytes_state]
@[simp] theorem fetchBytes_olen (sp : Space) (i n : Nat) (s : State) : (fetchBytes sp i n s).2.olen = s.olen := by
  rw [fetchBytes_state]
@[simp] theorem fetchBytes_ilen (sp : Space) (i n : Nat) (s : State) : (fetchBytes sp i n s).2.ilen = s.ilen := by
  rw [fetchBytes_state]
@[simp] theorem fetchBytes_seq (sp : Space) (i n : Nat) (s : State) : (fetchBytes sp i n s).2.seq = s.seq := by
  rw [fetchBytes_state]
@[simp] theorem fetchBytes_sleeping (sp : Space) (i n : Nat) (s : State) : (fetchBytes sp i n s).2.sleeping = s.sleeping := by
  rw [fetchBytes_state]
@[simp] theorem fetchBytes_status (sp : Space) (i n : Nat) (s : State) : (fetchBytes sp i n s).2.status = s.status := by
  rw [fetchBytes_state]
@[simp] theorem fetchBytes_errInfo (sp : Space) (i n : Nat) (s : State) : (fetchBytes sp i n s).2.errInfo = s.errInfo := by
  rw [fetchBytes_state]
@[simp] theorem fetchBytes_cmd (sp : Space) (i n : Nat) (s : State) : (fetchBytes sp i n s).2.cmd = s.cmd := by
  rw [fetchBytes_state]
@[simp] theorem fetchBytes_time (sp : Space) (i n : Nat) (s : State) : (fetchBytes sp i n s).2.time = s.time := by
  rw [fetchBytes_state]
@[simp] theorem fetchBytes_obuf (sp : Space) (i n : Nat) (s : State) : (fetchBytes sp i n s).2.obuf = s.obuf := by
  rw [fetchBytes_state]
@[simp] theorem fetchBytes_ibuf (sp : Space) (i n : Nat) (s : State) : (fetchBytes sp i n s).2.ibuf = s.ibuf := by
  rw [fetchBytes_state]
@[simp] theorem fetchBytes_rx (sp : Space) (i n : Nat) (s : State) : (fetchBytes sp i n s).2.rx = s.rx := by
  rw [fetchBytes_state]
@[simp] theorem fetchBytes_tx (sp : Space) (i n : Nat) (s : State) : (fetchBytes sp i n s).2.tx = s.tx := by
  rw [fetchBytes_state]
@[simp] theorem fetchBytes_unitIdWritten (sp : Space) (i n : Nat) (s : State) : (fetchBytes sp i n s).2.unitIdWritten = s.unitIdWritten := by
  rw [fetchBytes_state]
@[simp] theorem fetchBytes_readData (sp : Space) (i n : Nat) (s : State) : (fetchBytes sp i n s).2.readData = s.readData := by
  rw [fetchBytes_state]
@[simp] theorem fetchBytes_moves (sp : Space) (i n : Nat) (s : State) : (fetchBytes sp i n s).2.moves = s.moves := by
  rw [fetchBytes_state]

@[simp] theorem byteAt_fetchBytes (sp sp' : Space) (i n j : Nat) (s : State) :
    byteAt sp' j (fetchBytes sp i n s).2 = byteAt sp' j s :=
  byteAt_congr _ _ _ _ (by simp) (by simp)

@[simp] theorem fetchBytes_length (sp : Space) (i n : Nat) (s : State) : (fetchBytes sp i n s).1.length = n := by
  induction n generalizing i s with
  | zero => rfl
  | succ n ih => simp [fetchBytes, ih]

/-- The byte read at each place of a range where one has been written is that byte. -/
theorem fetchBytes_written (sp : Space) (i n k : Nat) (b : Byte) (s : State) (hk : k < n)
    (h : byteAt sp (i + k) s = some b) : (fetchBytes sp i n s).1[k]? = some b := by
  induction n generalizing i k s with
  | zero => omega
  | succ n ih =>
    cases k with
    | zero =>
      have h0 : byteAt sp i s = some b := h
      simp [fetchBytes, fetch_written sp i b s h0]
    | succ k =>
      simp only [fetchBytes, List.getElem?_cons_succ]
      refine ih (i + 1) k _ (by omega) ?_
      rw [byteAt_fetch, ← h]
      congr 1
      omega

/-! ### CFG_UNIT_ID -/

/-- A read of `CFG_UNIT_ID` changes only the count of free values. -/
theorem readUnitId_state (s : State) : (readUnitId s).2 = { s with draws := (readUnitId s).2.draws } := by
  unfold readUnitId
  split <;> rfl

/-- Once written, `CFG_UNIT_ID` reads as it stands, and nothing changes. -/
theorem readUnitId_written (s : State) (h : s.unitIdWritten = true) : readUnitId s = (s.cfg.unitId, s) := by
  simp [readUnitId, h]

@[simp] theorem readUnitId_params (s : State) : (readUnitId s).2.params = s.params := by
  rw [readUnitId_state]
@[simp] theorem readUnitId_cfg (s : State) : (readUnitId s).2.cfg = s.cfg := by
  rw [readUnitId_state]
@[simp] theorem readUnitId_op (s : State) : (readUnitId s).2.op = s.op := by
  rw [readUnitId_state]
@[simp] theorem readUnitId_res (s : State) : (readUnitId s).2.res = s.res := by
  rw [readUnitId_state]
@[simp] theorem readUnitId_crcLo (s : State) : (readUnitId s).2.crcLo = s.crcLo := by
  rw [readUnitId_state]
@[simp] theorem readUnitId_crcHi (s : State) : (readUnitId s).2.crcHi = s.crcHi := by
  rw [readUnitId_state]
@[simp] theorem readUnitId_lrcAcc (s : State) : (readUnitId s).2.lrcAcc = s.lrcAcc := by
  rw [readUnitId_state]
@[simp] theorem readUnitId_olen (s : State) : (readUnitId s).2.olen = s.olen := by
  rw [readUnitId_state]
@[simp] theorem readUnitId_ilen (s : State) : (readUnitId s).2.ilen = s.ilen := by
  rw [readUnitId_state]
@[simp] theorem readUnitId_seq (s : State) : (readUnitId s).2.seq = s.seq := by
  rw [readUnitId_state]
@[simp] theorem readUnitId_sleeping (s : State) : (readUnitId s).2.sleeping = s.sleeping := by
  rw [readUnitId_state]
@[simp] theorem readUnitId_status (s : State) : (readUnitId s).2.status = s.status := by
  rw [readUnitId_state]
@[simp] theorem readUnitId_errInfo (s : State) : (readUnitId s).2.errInfo = s.errInfo := by
  rw [readUnitId_state]
@[simp] theorem readUnitId_cmd (s : State) : (readUnitId s).2.cmd = s.cmd := by
  rw [readUnitId_state]
@[simp] theorem readUnitId_time (s : State) : (readUnitId s).2.time = s.time := by
  rw [readUnitId_state]
@[simp] theorem readUnitId_obuf (s : State) : (readUnitId s).2.obuf = s.obuf := by
  rw [readUnitId_state]
@[simp] theorem readUnitId_ibuf (s : State) : (readUnitId s).2.ibuf = s.ibuf := by
  rw [readUnitId_state]
@[simp] theorem readUnitId_rx (s : State) : (readUnitId s).2.rx = s.rx := by
  rw [readUnitId_state]
@[simp] theorem readUnitId_tx (s : State) : (readUnitId s).2.tx = s.tx := by
  rw [readUnitId_state]
@[simp] theorem readUnitId_unitIdWritten (s : State) : (readUnitId s).2.unitIdWritten = s.unitIdWritten := by
  rw [readUnitId_state]
@[simp] theorem readUnitId_readData (s : State) : (readUnitId s).2.readData = s.readData := by
  rw [readUnitId_state]
@[simp] theorem readUnitId_moves (s : State) : (readUnitId s).2.moves = s.moves := by
  rw [readUnitId_state]

@[simp] theorem byteAt_readUnitId (sp : Space) (i : Nat) (s : State) :
    byteAt sp i (readUnitId s).2 = byteAt sp i s :=
  byteAt_congr _ _ _ _ (by simp) (by simp)

end Sys2Proof.Machine
end

