-- ==== Sys2Proof/Laws/Flags.lean ====
section
/-! SUPPORT. Laws/Flags: the fields of `STATUS` after each of its updates. -/

namespace Sys2Proof.Machine

@[simp] theorem statusErr_of (e : BitVec 4) (v c d b : Bool) : statusErr (statusOf e v c d b) = e := by
  revert e v c d b
  decide

@[simp] theorem statusHostViol_of (e : BitVec 4) (v c d b : Bool) : statusHostViol (statusOf e v c d b) = v := by
  revert e v c d b
  decide

@[simp] theorem statusEchoShort_of (e : BitVec 4) (v c d b : Bool) : statusEchoShort (statusOf e v c d b) = c := by
  revert e v c d b
  decide

@[simp] theorem statusDone_of (e : BitVec 4) (v c d b : Bool) : statusDone (statusOf e v c d b) = d := by
  revert e v c d b
  decide

@[simp] theorem statusBusy_of (e : BitVec 4) (v c d b : Bool) : statusBusy (statusOf e v c d b) = b := by
  revert e v c d b
  decide

/-- `STATUS` is its fields. -/
theorem statusOf_fields (st : Byte) :
    statusOf (statusErr st) (statusHostViol st) (statusEchoShort st) (statusDone st) (statusBusy st) = st := by
  revert st
  decide

/-! ### Command issue -/

@[simp] theorem statusErr_issued (st : Byte) : statusErr (statusIssued st) = 0 := statusErr_of ..
@[simp] theorem statusHostViol_issued (st : Byte) : statusHostViol (statusIssued st) = statusHostViol st :=
  statusHostViol_of ..
@[simp] theorem statusEchoShort_issued (st : Byte) : statusEchoShort (statusIssued st) = statusEchoShort st :=
  statusEchoShort_of ..
@[simp] theorem statusDone_issued (st : Byte) : statusDone (statusIssued st) = false := statusDone_of ..
@[simp] theorem statusBusy_issued (st : Byte) : statusBusy (statusIssued st) = true := statusBusy_of ..

/-! ### The end of an operation -/

@[simp] theorem statusErr_ended (e : BitVec 4) (st : Byte) : statusErr (statusEnded e st) = e := statusErr_of ..
@[simp] theorem statusHostViol_ended (e : BitVec 4) (st : Byte) :
    statusHostViol (statusEnded e st) = statusHostViol st := statusHostViol_of ..
@[simp] theorem statusEchoShort_ended (e : BitVec 4) (st : Byte) :
    statusEchoShort (statusEnded e st) = statusEchoShort st := statusEchoShort_of ..
@[simp] theorem statusDone_ended (e : BitVec 4) (st : Byte) : statusDone (statusEnded e st) = true := statusDone_of ..
@[simp] theorem statusBusy_ended (e : BitVec 4) (st : Byte) : statusBusy (statusEnded e st) = false := statusBusy_of ..

/-! ### A short echo -/

@[simp] theorem statusErr_setEchoShort (st : Byte) : statusErr (statusSetEchoShort st) = statusErr st := statusErr_of ..
@[simp] theorem statusHostViol_setEchoShort (st : Byte) :
    statusHostViol (statusSetEchoShort st) = statusHostViol st := statusHostViol_of ..
@[simp] theorem statusEchoShort_setEchoShort (st : Byte) : statusEchoShort (statusSetEchoShort st) = true :=
  statusEchoShort_of ..
@[simp] theorem statusDone_setEchoShort (st : Byte) : statusDone (statusSetEchoShort st) = statusDone st :=
  statusDone_of ..
@[simp] theorem statusBusy_setEchoShort (st : Byte) : statusBusy (statusSetEchoShort st) = statusBusy st :=
  statusBusy_of ..

/-! ### A host write while busy -/

@[simp] theorem statusErr_setHostViol (st : Byte) : statusErr (statusSetHostViol st) = statusErr st := statusErr_of ..
@[simp] theorem statusHostViol_setHostViol (st : Byte) : statusHostViol (statusSetHostViol st) = true :=
  statusHostViol_of ..
@[simp] theorem statusEchoShort_setHostViol (st : Byte) :
    statusEchoShort (statusSetHostViol st) = statusEchoShort st := statusEchoShort_of ..
@[simp] theorem statusDone_setHostViol (st : Byte) : statusDone (statusSetHostViol st) = statusDone st :=
  statusDone_of ..
@[simp] theorem statusBusy_setHostViol (st : Byte) : statusBusy (statusSetHostViol st) = statusBusy st :=
  statusBusy_of ..

/-! ### A write of ones to the sticky bits -/

@[simp] theorem statusErr_clear (v st : Byte) : statusErr (statusClear v st) = statusErr st := statusErr_of ..
@[simp] theorem statusHostViol_clear (v st : Byte) :
    statusHostViol (statusClear v st) = (statusHostViol st && !statusHostViol v) := statusHostViol_of ..
@[simp] theorem statusEchoShort_clear (v st : Byte) :
    statusEchoShort (statusClear v st) = (statusEchoShort st && !statusEchoShort v) := statusEchoShort_of ..
@[simp] theorem statusDone_clear (v st : Byte) : statusDone (statusClear v st) = statusDone st := statusDone_of ..
@[simp] theorem statusBusy_clear (v st : Byte) : statusBusy (statusClear v st) = statusBusy st := statusBusy_of ..

end Sys2Proof.Machine
end

