-- ==== Sys2Proof/Laws/Issue.lean ====
section
/-! SUPPORT. Laws/Issue: the write of a code to `CMD`: which codes are operations, what the entry does to the time, and
what the step that performs the write is. -/

namespace Sys2Proof.Machine

/-- The codes of R120 are those that decode to no illegal row. -/
theorem isOperationCode_of_decode {v : Byte} {i : Instr} (h : decodeByte .cmd8 v = .ok i) :
    isOperationCode v = !illegalRow i := by
  have all : ∀ v : Byte, (match decodeByte .cmd8 v with
      | .ok i    => isOperationCode v == !illegalRow i
      | .error _ => true) = true := by decide +kernel
  have := all v
  rw [h] at this
  simpa using this

@[simp] theorem issueTime_now (v : Byte) (t : TimeRegs) : (issueTime v t).now = t.now := by
  unfold issueTime; split <;> rfl

@[simp] theorem issueTime_t0Read (v : Byte) (t : TimeRegs) : (issueTime v t).t0Read = t.t0Read := by
  unfold issueTime; split <;> rfl

@[simp] theorem issueTime_tNext (v : Byte) (t : TimeRegs) : (issueTime v t).tNext = t.tNext := by
  unfold issueTime; split <;> rfl

@[simp] theorem issueTime_t0Phase (v : Byte) (t : TimeRegs) : (issueTime v t).t0Phase = t.t0Phase := by
  unfold issueTime; split <;> rfl

/-- A code that decodes to an illegal row leaves the time alone, and any other records it (R231, R267). -/
theorem issueTime_of_decode {v : Byte} {i : Instr} (h : decodeByte .cmd8 v = .ok i) (t : TimeRegs) :
    issueTime v t = if illegalRow i = true then t else { t with t0Op := t.now } := by
  rw [issueTime, isOperationCode_of_decode h]
  cases illegalRow i <;> rfl

/-- The entry of an operation does not depend on what `T0_OP` held, so that leaving it alone at an illegal code (R122,
R267) instead of writing it (R231) is seen by no operation issued later. -/
theorem commandEntry_t0Op {v : Byte} (h : isOperationCode v = true) (x : Word) (s : State) :
    commandEntry v { s with time.t0Op := x } = commandEntry v s := by
  simp [commandEntry, issueTime, h]

/-- The write of a code to `CMD` executes the instruction it decodes to in the state after the entry. -/
theorem issue_of_decode {v : Byte} {i : Instr} (h : decodeByte .cmd8 v = .ok i) (s : State) :
    issue v s = exec i (commandEntry v s) := by
  simp only [issue, h]

/-- An idle write of `CMD` that is the next move is the issue of its lowest byte. -/
theorem moveStep_command (v : Word) (rest : List Move) (s : State) (h : statusBusy s.status = false) :
    moveStep (.hostWrite 0x32 v) rest s = issue (v.setWidth 8) { s with moves := rest } := by
  simp [moveStep, hostWrite, cmdNumber, h]

end Sys2Proof.Machine
end

