-- ==== Sys2Proof/Laws/PerInstr.lean ====
section
/-! SUPPORT. Laws/PerInstr: the word of an instruction is one of its row's words, one lemma per constructor. -/

namespace Sys2Proof.Laws.RowWord

/-- The encoded word of a well-formed instruction matches the mask and the pattern of its row in
spec/opcode_table.json. -/
def Statement (i : Instr) : Prop :=
  i.WellFormed → encodeByte i &&& i.key.mask = i.key.pattern

theorem nop : Statement .nop := fun _ => rfl
theorem lrcInit : Statement .lrcInit := fun _ => rfl
theorem lrcUpdate : Statement .lrcUpdate := fun _ => rfl
theorem lrcRead : Statement .lrcRead := fun _ => rfl
theorem lrcRange : Statement .lrcRange := fun _ => rfl
theorem crcInit : Statement .crcInit := fun _ => rfl
theorem crcUpdate : Statement .crcUpdate := fun _ => rfl
theorem crcRead : Statement .crcRead := fun _ => rfl
theorem crcRange : Statement .crcRange := fun _ => rfl
theorem rxAvail : Statement .rxAvail := fun _ => rfl
theorem rxRead : Statement .rxRead := fun _ => rfl
theorem ascRxToken : Statement .ascRxToken := fun _ => rfl
theorem txWrite : Statement .txWrite := fun _ => rfl
theorem ascTxWrite : Statement .ascTxWrite := fun _ => rfl
theorem rxFlush : Statement .rxFlush := fun _ => rfl
theorem echoDiscard : Statement .echoDiscard := fun _ => rfl
theorem hexEnc : Statement .hexEnc := fun _ => rfl
theorem hexDec : Statement .hexDec := fun _ => rfl
theorem ascWriteFrame : Statement .ascWriteFrame := fun _ => rfl
theorem ascReadFrame : Statement .ascReadFrame := fun _ => rfl
theorem rtuWriteFrame : Statement .rtuWriteFrame := fun _ => rfl
theorem rtuReadFrame : Statement .rtuReadFrame := fun _ => rfl
theorem illegal09 : Statement .illegal09 := fun _ => rfl
theorem illegal0A0B (w : Byte) : Statement (.illegal0A0B w) := fun h => h w rfl
theorem illegal0C0F (w : Byte) : Statement (.illegal0C0F w) := fun h => h w rfl
theorem illegal19 : Statement .illegal19 := fun _ => rfl
theorem illegal1A1B (w : Byte) : Statement (.illegal1A1B w) := fun h => h w rfl
theorem illegal1C1F (w : Byte) : Statement (.illegal1C1F w) := fun h => h w rfl
theorem illegal2427 (w : Byte) : Statement (.illegal2427 w) := fun h => h w rfl
theorem illegal282F (w : Byte) : Statement (.illegal282F w) := fun h => h w rfl
theorem illegal303F (w : Byte) : Statement (.illegal303F w) := fun h => h w rfl
theorem illegal407F (w : Byte) : Statement (.illegal407F w) := fun h => h w rfl
theorem illegal80FF (w : Byte) : Statement (.illegal80FF w) := fun h => h w rfl
theorem fc01ReadCoils : Statement .fc01ReadCoils := fun _ => rfl
theorem fc02ReadDiscreteInputs : Statement .fc02ReadDiscreteInputs := fun _ => rfl
theorem fc03ReadHoldingRegisters : Statement .fc03ReadHoldingRegisters := fun _ => rfl
theorem fc04ReadInputRegisters : Statement .fc04ReadInputRegisters := fun _ => rfl
theorem fc05WriteSingleCoil : Statement .fc05WriteSingleCoil := fun _ => rfl
theorem fc06WriteSingleRegister : Statement .fc06WriteSingleRegister := fun _ => rfl
theorem fc07ReadExceptionStatus : Statement .fc07ReadExceptionStatus := fun _ => rfl
theorem fc08Diagnostics : Statement .fc08Diagnostics := fun _ => rfl
theorem fc0BGetCommEventCounter : Statement .fc0BGetCommEventCounter := fun _ => rfl
theorem fc0CGetCommEventLog : Statement .fc0CGetCommEventLog := fun _ => rfl
theorem fc0FWriteMultipleCoils : Statement .fc0FWriteMultipleCoils := fun _ => rfl
theorem fc10WriteMultipleRegisters : Statement .fc10WriteMultipleRegisters := fun _ => rfl
theorem fc11ReportSlaveId : Statement .fc11ReportSlaveId := fun _ => rfl
theorem fc14ReadFileRecord : Statement .fc14ReadFileRecord := fun _ => rfl
theorem fc15WriteFileRecord : Statement .fc15WriteFileRecord := fun _ => rfl
theorem fc16MaskWriteRegister : Statement .fc16MaskWriteRegister := fun _ => rfl
theorem fc17ReadWriteMultipleRegisters : Statement .fc17ReadWriteMultipleRegisters := fun _ => rfl
theorem fc18ReadFifoQueue : Statement .fc18ReadFifoQueue := fun _ => rfl
theorem fcUnknown00 : Statement .fcUnknown00 := fun _ => rfl
theorem fcUnknown09 : Statement .fcUnknown09 := fun _ => rfl
theorem fcUnknown0A : Statement .fcUnknown0A := fun _ => rfl
theorem fcUnknown0D : Statement .fcUnknown0D := fun _ => rfl
theorem fcUnknown0E : Statement .fcUnknown0E := fun _ => rfl
theorem fcUnknown1213 (w : Byte) : Statement (.fcUnknown1213 w) := fun h => h w rfl
theorem fcUnknown19 : Statement .fcUnknown19 := fun _ => rfl
theorem fcUnknown1A1B (w : Byte) : Statement (.fcUnknown1A1B w) := fun h => h w rfl
theorem fcUnknown1C1F (w : Byte) : Statement (.fcUnknown1C1F w) := fun h => h w rfl
theorem fcUnknown203F (w : Byte) : Statement (.fcUnknown203F w) := fun h => h w rfl
theorem fcUnknown407F (w : Byte) : Statement (.fcUnknown407F w) := fun h => h w rfl
theorem fcUnknown80FF (w : Byte) : Statement (.fcUnknown80FF w) := fun h => h w rfl
theorem ascStart : Statement .ascStart := fun _ => rfl
theorem ascCr : Statement .ascCr := fun _ => rfl
theorem ascLf : Statement .ascLf := fun _ => rfl
theorem ascHex07 (w : Byte) : Statement (.ascHex07 w) := fun h => h w rfl
theorem ascHex89 (w : Byte) : Statement (.ascHex89 w) := fun h => h w rfl
theorem ascHexA : Statement .ascHexA := fun _ => rfl
theorem ascHexBC (w : Byte) : Statement (.ascHexBC w) := fun h => h w rfl
theorem ascHexDE (w : Byte) : Statement (.ascHexDE w) := fun h => h w rfl
theorem ascHexF : Statement .ascHexF := fun _ => rfl

end Sys2Proof.Laws.RowWord
end

