-- ==== Sys2Proof/Laws/Runs.lean ====
section
/-! SUPPORT. Laws/Runs: one step by the move at its head, runs of turns and of steps one at a time, and the host's idle
accesses to a buffer. -/

namespace Sys2Proof.Machine

/-! ### One step -/

theorem step_nil {s : State} (h : s.moves = []) : step s = advance s := by
  simp only [step, systemStep, h]

theorem step_cons {s : State} {m : Move} {rest : List Move} (h : s.moves = m :: rest) :
    step s = moveStep m rest s := by
  simp only [step, systemStep, h]

/-! ### Runs -/

@[simp] theorem turns_zero (s : State) : turns 0 s = .next s := rfl

theorem turns_succ {s t : State} (n : Nat) (h : turn s = .next t) : turns (n + 1) s = turns n t := by
  simp only [turns, h]

@[simp] theorem steps_zero (s : State) : steps 0 s = .next s := rfl

theorem steps_succ {s t : State} (n : Nat) (h : step s = .next t) : steps (n + 1) s = steps n t := by
  have h' : Sys2Proof.core.step s = .next t := h
  simp only [steps, Host.Core.run, h']
  rfl

/-! ### The host's idle accesses to a buffer (R63) -/

theorem hostStore_obuf {i : Nat} {s : State} (b : Byte) (hb : statusBusy s.status = false)
    (hi : i < s.params.bufSize) : hostStore .obuf i b s = .next (store .obuf i b s) := by
  simp [hostStore, hb, hi]

theorem hostStore_ibuf {i : Nat} {s : State} (b : Byte) (hb : statusBusy s.status = false)
    (hi : i < s.params.bufSize) : hostStore .ibuf i b s = .next s := by
  simp [hostStore, hb, hi]

theorem hostLoad_written {sp : Space} {i : Nat} {b : Byte} {s : State} (hb : statusBusy s.status = false)
    (hi : i < s.params.bufSize) (h : byteAt sp i s = some b) :
    hostLoad sp i s = .next { s with readData := b.setWidth 32 } := by
  simp [hostLoad, hb, hi, fetch_written sp i b s h]

end Sys2Proof.Machine
end

