-- ==== Sys2Proof/Laws/Turns.lean ====
section
/-! SUPPORT. Laws/Turns: what each shared operation of the sequencer can do, once: operand checks, the reads, the
flush, the echo discard, the accumulation of a byte, and the sequencer's turn. -/

namespace Sys2Proof.Machine

/-! ### Operand checks -/

theorem rangeFits_iff (s : State) : rangeFits s = true ↔ s.op.off.toNat + s.op.len.toNat ≤ s.params.bufSize := by
  simp [rangeFits]

theorem frameFits_iff (extra : Nat) (s : State) :
    frameFits extra s = true ↔ s.op.len.toNat + extra ≤ s.params.bufSize := by
  simp [frameFits]

theorem isHex_iff (c : Byte) :
    isHex c = true ↔ (0x30 ≤ c.toNat ∧ c.toNat ≤ 0x39) ∨ (0x41 ≤ c.toNat ∧ c.toNat ≤ 0x46) := by
  simp [isHex]

/-- A hex character is none of the envelope's characters (R92). -/
theorem isHex_ne {c : Byte} (h : isHex c = true) : c ≠ charStart ∧ c ≠ charCr ∧ c ≠ charLf := by
  refine ⟨?_, ?_, ?_⟩ <;> rintro rfl <;> exact absurd h (by decide)

@[simp] theorem hexPairs_length (bs : List Byte) : (hexPairs bs).length = 2 * bs.length := by
  induction bs with
  | nil => rfl
  | cons b bs ih => simp [hexPairs, ih]; omega

/-! ### The timeout-bounded read -/

/-- A read takes the head of RX. -/
theorem readTurn_cons {k : Byte → State → Result} {b : Byte} {rest : List Byte} {s : State} (h : s.rx = b :: rest) :
    readTurn k s = k b (popped rest s) := by
  simp [readTurn, h]

/-- A read that finds no byte once its bound has passed reports `Timeout`. -/
theorem readTurn_timeout {k : Byte → State → Result} {s : State} (h : s.rx = [])
    (hb : s.cfg.readTimeout.toNat ≤ elapsed s.time.t0Read s) : readTurn k s = raise .timeout 0 s := by
  simp [readTurn, h, readEmpty, hb]

/-- A read that finds no byte before its bound sleeps. -/
theorem readTurn_sleep {k : Byte → State → Result} {s : State} (h : s.rx = [])
    (hb : elapsed s.time.t0Read s < s.cfg.readTimeout.toNat) : readTurn k s = .next (sleep s) := by
  simp [readTurn, h, readEmpty, Nat.not_le.2 hb]

/-- Everything a turn of a read can do, when it answers a next state. -/
theorem readTurn_cases {k : Byte → State → Result} {s t : State} (h : readTurn k s = .next t) :
    (∃ b rest, s.rx = b :: rest ∧ k b (popped rest s) = .next t) ∨
    (s.rx = [] ∧ s.cfg.readTimeout.toNat ≤ elapsed s.time.t0Read s ∧ t = ended 1 0 s) ∨
    (s.rx = [] ∧ elapsed s.time.t0Read s < s.cfg.readTimeout.toNat ∧ t = sleep s) := by
  cases hr : s.rx with
  | cons b rest => exact .inl ⟨b, rest, rfl, by rwa [readTurn_cons hr] at h⟩
  | nil =>
    by_cases hb : s.cfg.readTimeout.toNat ≤ elapsed s.time.t0Read s
    · rw [readTurn_timeout hr hb] at h
      cases h
      exact .inr (.inl ⟨rfl, hb, rfl⟩)
    · rw [readTurn_sleep hr (Nat.not_le.1 hb)] at h
      cases h
      exact .inr (.inr ⟨rfl, Nat.not_le.1 hb, rfl⟩)

/-- A read with the overall deadline reports `Deadline` once it has passed, and else is the read (R186). -/
theorem readTurnA_cases {k : Byte → State → Result} {s t : State} (h : readTurnA k s = .next t) :
    (deadlinePassed s = true ∧ t = ended 5 0 s) ∨ (deadlinePassed s = false ∧ readTurn k s = .next t) := by
  cases hd : deadlinePassed s with
  | true =>
    simp only [readTurnA, hd, if_true] at h
    cases h
    exact .inl ⟨rfl, rfl⟩
  | false =>
    simp only [readTurnA, hd] at h
    exact .inr ⟨rfl, h⟩

theorem deadlinePassed_iff (s : State) : deadlinePassed s = true ↔
    s.cfg.overallTimeout ≠ 0 ∧ s.cfg.overallTimeout.toNat ≤ (s.time.now - s.time.t0Op).toNat := by
  simp only [deadlinePassed, Bool.and_eq_true, decide_eq_true_eq]
  rfl

/-! ### The flush -/

theorem flushStops_iff (n : Nat) (s : State) : flushStops n s = true ↔
    s.rx = [] ∨ s.params.flushMax ≤ n ∨ s.params.flushWindowMs ≤ (s.time.now - s.time.t0Phase).toNat := by
  simp only [flushStops, Bool.or_eq_true, decide_eq_true_eq, List.isEmpty_iff, or_assoc]
  rfl

/-- Everything a turn of a flush can do, when it answers a next state. -/
theorem flushTurn_cases {wait : Nat → Seq} {k : Nat → State → Result} {n : Nat} {s t : State}
    (h : flushTurn wait k n s = .next t) :
    (flushStops n s = true ∧ k n s = .next t) ∨
    (flushStops n s = false ∧ ∃ b rest, s.rx = b :: rest ∧ t = { popped rest s with seq := wait (n + 1) }) := by
  cases hs : flushStops n s with
  | true =>
    simp only [flushTurn, hs, if_true] at h
    exact .inl ⟨rfl, h⟩
  | false =>
    refine .inr ⟨rfl, ?_⟩
    cases hr : s.rx with
    | nil =>
      have := (flushStops_iff n s).2 (.inl hr)
      simp [hs] at this
    | cons b rest =>
      simp only [flushTurn, hs, hr] at h
      cases h
      exact ⟨b, rest, rfl, rfl⟩

/-! ### The echo discard -/

/-- Everything the end of an echo discard can do. -/
theorem echoFinish_cases {got want : Nat} {s t : State} (h : echoFinish got want s = .next t) :
    (got < want ∧
      t = ended 0 0 { s with res.echoCnt := BitVec.ofNat 32 got, status := statusSetEchoShort s.status }) ∨
    (want ≤ got ∧ t = ended 0 0 { s with res.echoCnt := BitVec.ofNat 32 got }) := by
  by_cases hg : got < want
  · simp only [echoFinish, hg, if_true] at h
    cases h
    exact .inl ⟨hg, rfl⟩
  · simp only [echoFinish, hg, if_false] at h
    cases h
    exact .inr ⟨Nat.not_lt.1 hg, rfl⟩

/-- Everything a turn of an echo discard can do, when it answers a next state. -/
theorem echoTurn_cases {wait : Nat → Nat → Seq} {got want : Nat} {s t : State}
    (h : echoTurn wait got want s = .next t) :
    (got = want ∧ echoFinish got want s = .next t) ∨
    (got ≠ want ∧ ∃ b rest, s.rx = b :: rest ∧ t = { popped rest s with seq := wait (got + 1) want }) ∨
    (got ≠ want ∧ s.rx = [] ∧ s.cfg.echoTimeout.toNat ≤ elapsed s.time.t0Phase s ∧
      echoFinish got want s = .next t) ∨
    (got ≠ want ∧ s.rx = [] ∧ elapsed s.time.t0Phase s < s.cfg.echoTimeout.toNat ∧ t = sleep s) := by
  by_cases hg : got = want
  · simp only [echoTurn, hg, if_true] at h
    exact .inl ⟨hg, by rw [hg]; exact h⟩
  · simp only [echoTurn, hg, if_false] at h
    cases hr : s.rx with
    | cons b rest =>
      simp only [hr] at h
      cases h
      exact .inr (.inl ⟨hg, b, rest, rfl, rfl⟩)
    | nil =>
      simp only [hr] at h
      by_cases hb : s.cfg.echoTimeout.toNat ≤ elapsed s.time.t0Phase s
      · simp only [echoEmpty, hb, if_true] at h
        exact .inr (.inr (.inl ⟨hg, rfl, hb, h⟩))
      · simp only [echoEmpty, hb, if_false] at h
        cases h
        exact .inr (.inr (.inr ⟨hg, rfl, Nat.not_le.1 hb, rfl⟩))

/-! ### Accumulating a byte -/

/-- A byte is appended at `IBUF:ILEN` while there is room. -/
theorem append_room {b : Byte} {k : State → Result} {s : State} (h : s.ilen.toNat < s.params.bufSize) :
    append b k s = k { store .ibuf s.ilen.toNat b s with ilen := s.ilen + 1 } := by
  simp [append, h]

/-- What an append that answers a next state has done. -/
theorem append_cases {b : Byte} {k : State → Result} {s t : State} (h : append b k s = .next t) :
    s.ilen.toNat < s.params.bufSize ∧ k { store .ibuf s.ilen.toNat b s with ilen := s.ilen + 1 } = .next t := by
  by_cases hi : s.ilen.toNat < s.params.bufSize
  · exact ⟨hi, by rwa [append_room hi] at h⟩
  · simp [append, hi] at h

end Sys2Proof.Machine
end

