-- ==== Sys2Proof/Tests/Slice0.lean ====
section
/-! SUPPORT. Tests/Slice0: words written out from the tables of spec/30_encoding.md, single steps from the vectors of
spec/95_test_vectors.md, and states that meet the hypotheses of the obligations. -/

namespace Sys2Proof.Tests

open Sys2Proof.Machine

/-! ### Helpers -/

/-- The byte decodes in the format to the instruction. -/
def decodesTo (f : Format) (b : Byte) (i : Instr) : Bool :=
  match decodeByte f b with
  | .ok j    => decide (j = i)
  | .error _ => false

/-- The outcome is a next state that passes the check. -/
def gives (r : Result) (check : State → Bool) : Bool :=
  match r with
  | .next t    => check t
  | .fault _   => false
  | .refused _ => false

/-- The bytes as a buffer's content from index `i` on. -/
def content : (i : Nat) → List Byte → Memory
  | _, [] => []
  | i, b :: rest => (i, b) :: content (i + 1) rest

/-- The start state of the vectors with `CFG_UNIT_ID = 01`. -/
def base : State := { State.reset with cfg.unitId := 0x01, unitIdWritten := true }

/-- One step: the host writes a code to `CMD`. -/
def command (code : Word) (s : State) : Result := step { s with moves := [.hostWrite 0x32 code] }

/-- An operation waits in `q`. -/
def waiting (q : Seq) (s : State) : State := { s with seq := q, status := 0x01 }

/-- The operands and the body of the vectors V20w and V50w. -/
def request : State :=
  { base with op.uid := 0x01, op.fc := 0x03, op.len := 4, obuf := content 2 [0x00, 0x00, 0x00, 0x0A] }

/-- OBUF of the vector V12 and its range. -/
def ranged (off len : Len) : State :=
  { base with op.off := off, op.len := len, obuf := content 0 [0x01, 0x03, 0x00, 0x00, 0x00, 0x0A] }

/-- A reader waits in `q` with these bytes in IBUF. -/
def reading (q : Seq) (bs : List Byte) (s : State) : State :=
  { waiting q s with ibuf := content 0 bs, ilen := BitVec.ofNat 17 bs.length }

/-! ### WellFormed: an ill-formed word for each row that carries one -/

theorem test_wellFormed_commands :
    [Instr.illegal0A0B 0x0B, .illegal0C0F 0x0F, .illegal1A1B 0x1B, .illegal1C1F 0x1F,
      .illegal2427 0x27, .illegal282F 0x2F, .illegal303F 0x3F, .illegal407F 0x7F, .illegal80FF 0xFF].all
      (fun i => decide i.WellFormed) = true ∧
    [Instr.illegal0A0B 0x0C, .illegal0C0F 0x10, .illegal1A1B 0x1C, .illegal1C1F 0x20,
      .illegal2427 0x28, .illegal282F 0x30, .illegal303F 0x40, .illegal407F 0x80, .illegal80FF 0x7F].all
      (fun i => !decide i.WellFormed) = true := by
  decide

theorem test_wellFormed_functionCodes :
    [Instr.fcUnknown1213 0x13, .fcUnknown1A1B 0x1B, .fcUnknown1C1F 0x1F, .fcUnknown203F 0x3F,
      .fcUnknown407F 0x7F, .fcUnknown80FF 0xFF].all
      (fun i => decide i.WellFormed) = true ∧
    [Instr.fcUnknown1213 0x14, .fcUnknown1A1B 0x1C, .fcUnknown1C1F 0x20, .fcUnknown203F 0x40,
      .fcUnknown407F 0x80, .fcUnknown80FF 0x7F].all
      (fun i => !decide i.WellFormed) = true := by
  decide

theorem test_wellFormed_characters :
    [Instr.ascHex07 0x37, .ascHex89 0x39, .ascHexBC 0x43, .ascHexDE 0x45].all
      (fun i => decide i.WellFormed) = true ∧
    [Instr.ascHex07 0x38, .ascHex89 0x3A, .ascHexBC 0x44, .ascHexDE 0x46].all
      (fun i => !decide i.WellFormed) = true := by
  decide

/-! ### Decoding: one word for each row -/

/-- R120: NOP and the checksum engine. -/
theorem test_decode_checksumCommands :
    decodesTo .cmd8 0x00 .nop = true ∧
    decodesTo .cmd8 0x01 .lrcInit = true ∧
    decodesTo .cmd8 0x02 .lrcUpdate = true ∧
    decodesTo .cmd8 0x03 .lrcRead = true ∧
    decodesTo .cmd8 0x04 .lrcRange = true ∧
    decodesTo .cmd8 0x05 .crcInit = true ∧
    decodesTo .cmd8 0x06 .crcUpdate = true ∧
    decodesTo .cmd8 0x07 .crcRead = true ∧
    decodesTo .cmd8 0x08 .crcRange = true := by
  decide

/-- R120: the adapter. -/
theorem test_decode_adapterCommands :
    decodesTo .cmd8 0x10 .rxAvail = true ∧
    decodesTo .cmd8 0x11 .rxRead = true ∧
    decodesTo .cmd8 0x12 .ascRxToken = true ∧
    decodesTo .cmd8 0x13 .txWrite = true ∧
    decodesTo .cmd8 0x14 .ascTxWrite = true ∧
    decodesTo .cmd8 0x15 .rxFlush = true ∧
    decodesTo .cmd8 0x16 .echoDiscard = true ∧
    decodesTo .cmd8 0x17 .hexEnc = true ∧
    decodesTo .cmd8 0x18 .hexDec = true := by
  decide

/-- R120: the codecs. -/
theorem test_decode_codecCommands :
    decodesTo .cmd8 0x20 .ascWriteFrame = true ∧
    decodesTo .cmd8 0x21 .ascReadFrame = true ∧
    decodesTo .cmd8 0x22 .rtuWriteFrame = true ∧
    decodesTo .cmd8 0x23 .rtuReadFrame = true := by
  decide

/-- R122. -/
theorem test_decode_illegalCommands :
    decodesTo .cmd8 0x09 .illegal09 = true ∧
    decodesTo .cmd8 0x0B (.illegal0A0B 0x0B) = true ∧
    decodesTo .cmd8 0x0F (.illegal0C0F 0x0F) = true ∧
    decodesTo .cmd8 0x19 .illegal19 = true ∧
    decodesTo .cmd8 0x1B (.illegal1A1B 0x1B) = true ∧
    decodesTo .cmd8 0x1F (.illegal1C1F 0x1F) = true ∧
    decodesTo .cmd8 0x27 (.illegal2427 0x27) = true ∧
    decodesTo .cmd8 0x2F (.illegal282F 0x2F) = true ∧
    decodesTo .cmd8 0x3F (.illegal303F 0x3F) = true ∧
    decodesTo .cmd8 0x7F (.illegal407F 0x7F) = true ∧
    decodesTo .cmd8 0xFF (.illegal80FF 0xFF) = true := by
  decide

/-- R112. -/
theorem test_decode_knownFunctionCodes :
    decodesTo .rtuFc 0x01 .fc01ReadCoils = true ∧
    decodesTo .rtuFc 0x02 .fc02ReadDiscreteInputs = true ∧
    decodesTo .rtuFc 0x03 .fc03ReadHoldingRegisters = true ∧
    decodesTo .rtuFc 0x04 .fc04ReadInputRegisters = true ∧
    decodesTo .rtuFc 0x05 .fc05WriteSingleCoil = true ∧
    decodesTo .rtuFc 0x06 .fc06WriteSingleRegister = true ∧
    decodesTo .rtuFc 0x07 .fc07ReadExceptionStatus = true ∧
    decodesTo .rtuFc 0x08 .fc08Diagnostics = true ∧
    decodesTo .rtuFc 0x0B .fc0BGetCommEventCounter = true ∧
    decodesTo .rtuFc 0x0C .fc0CGetCommEventLog = true ∧
    decodesTo .rtuFc 0x0F .fc0FWriteMultipleCoils = true ∧
    decodesTo .rtuFc 0x10 .fc10WriteMultipleRegisters = true ∧
    decodesTo .rtuFc 0x11 .fc11ReportSlaveId = true ∧
    decodesTo .rtuFc 0x14 .fc14ReadFileRecord = true ∧
    decodesTo .rtuFc 0x15 .fc15WriteFileRecord = true ∧
    decodesTo .rtuFc 0x16 .fc16MaskWriteRegister = true ∧
    decodesTo .rtuFc 0x17 .fc17ReadWriteMultipleRegisters = true ∧
    decodesTo .rtuFc 0x18 .fc18ReadFifoQueue = true := by
  decide

/-- R112. -/
theorem test_decode_unknownFunctionCodes :
    decodesTo .rtuFc 0x00 .fcUnknown00 = true ∧
    decodesTo .rtuFc 0x09 .fcUnknown09 = true ∧
    decodesTo .rtuFc 0x0A .fcUnknown0A = true ∧
    decodesTo .rtuFc 0x0D .fcUnknown0D = true ∧
    decodesTo .rtuFc 0x0E .fcUnknown0E = true ∧
    decodesTo .rtuFc 0x13 (.fcUnknown1213 0x13) = true ∧
    decodesTo .rtuFc 0x19 .fcUnknown19 = true ∧
    decodesTo .rtuFc 0x1B (.fcUnknown1A1B 0x1B) = true ∧
    decodesTo .rtuFc 0x1F (.fcUnknown1C1F 0x1F) = true ∧
    decodesTo .rtuFc 0x3F (.fcUnknown203F 0x3F) = true ∧
    decodesTo .rtuFc 0x7F (.fcUnknown407F 0x7F) = true ∧
    decodesTo .rtuFc 0xFF (.fcUnknown80FF 0xFF) = true := by
  decide

/-- R91, R92. -/
theorem test_decode_characters :
    decodesTo .ascChar 0x3A .ascStart = true ∧
    decodesTo .ascChar 0x0D .ascCr = true ∧
    decodesTo .ascChar 0x0A .ascLf = true ∧
    decodesTo .ascChar 0x37 (.ascHex07 0x37) = true ∧
    decodesTo .ascChar 0x39 (.ascHex89 0x39) = true ∧
    decodesTo .ascChar 0x41 .ascHexA = true ∧
    decodesTo .ascChar 0x43 (.ascHexBC 0x43) = true ∧
    decodesTo .ascChar 0x45 (.ascHexDE 0x45) = true ∧
    decodesTo .ascChar 0x46 .ascHexF = true := by
  decide

/-- R91, R92: a lower-case letter and a plain letter outside `A` to `F` are no characters of the format. -/
theorem test_decode_otherCharacters :
    decodeByte .ascChar 0x62 = .error (.noRow .ascChar) ∧ decodeByte .ascChar 0x47 = .error (.noRow .ascChar) ∧
    decode .ascChar [] = .error .noByte := by
  decide

/-- A word of the table is its one byte (R120). -/
theorem test_decodeTableWord :
    decodeTableWord 8 0x08 = some .crcRange ∧ decodeTableWord 8 0x23 = some .rtuReadFrame ∧
    decodeTableWord 8 0xFF = some (.illegal80FF 0xFF) := by
  decide

/-! ### Reset and fetch -/

/-- V74, and both buffers in canonical form. -/
theorem test_reset :
    State.reset.status = 0x00 ∧ State.reset.crcLo = 0xFF ∧ State.reset.crcHi = 0xFF ∧ State.reset.lrcAcc = 0x00 ∧
    State.reset.cfg.readTimeout = 500 ∧ State.reset.cfg.echoTimeout = 1000 ∧ State.reset.cfg.ctrl = 0x00 ∧
    State.reset.cfg.overallTimeout = 0 ∧ State.reset.time.now = 0 ∧ Memory.wf State.reset.obuf = true ∧
    Memory.wf State.reset.ibuf = true := by
  decide

/-- V74: `CRC_READ` as the first operation after reset gives `FF FF`. -/
theorem test_withFetchWord :
    gives (step (State.reset.withFetchWord 8 0x07)) (fun t =>
      t.res.lo == 0xFF && t.res.hi == 0xFF && t.status == 0x02 && t.cmd == 0x07) = true := by
  decide

/-- R16: with nothing placed, the first step after reset is a millisecond. -/
theorem test_resetTicks : gives (step State.reset) (fun t => decide (t = tick State.reset)) = true := by
  decide

/-! ### Checksum engine -/

/-- V10c. -/
theorem test_lrcInit : gives (command 0x01 { base with lrcAcc := 0x55 }) (fun t => t.lrcAcc == 0x00) = true := by
  decide

/-- V10b. -/
theorem test_lrcUpdate :
    gives (command 0x02 { base with lrcAcc := 0xFF, op.byte := 0x01 }) (fun t =>
      t.lrcAcc == 0x00 && t.status == 0x02) = true := by
  decide

/-- V10. -/
theorem test_lrcRead :
    gives (command 0x03 { base with lrcAcc := 0x0E }) (fun t => t.res.lo == 0xF2 && t.lrcAcc == 0x0E) = true := by
  decide

/-- V12. -/
theorem test_lrcRange :
    gives (command 0x04 (ranged 0 6)) (fun t => t.res.lo == 0xF2 && t.lrcAcc == 0x0E) = true := by
  decide

/-- V13b: an empty range at the end of the buffer is legal. -/
theorem test_lrcRange_empty :
    gives (command 0x04 (ranged 256 0)) (fun t => t.res.lo == 0x00 && t.lrcAcc == 0x00 && t.status == 0x02) = true := by
  decide

/-- V11. -/
theorem test_crcInit :
    gives (command 0x05 { base with crcLo := 0x12, crcHi := 0x34 }) (fun t => t.crcLo == 0xFF && t.crcHi == 0xFF) = true := by
  decide

/-- V11b, the first update and the last. -/
theorem test_crcUpdate :
    gives (command 0x06 { base with op.byte := 0x01 }) (fun t => t.crcLo == 0x7E && t.crcHi == 0x80) = true ∧
    gives (command 0x06 { base with crcLo := 0x19, crcHi := 0x84, op.byte := 0x0A }) (fun t =>
      t.crcLo == 0xC5 && t.crcHi == 0xCD) = true := by
  decide

/-- V11b. -/
theorem test_crcRead :
    gives (command 0x07 { base with crcLo := 0xC5, crcHi := 0xCD }) (fun t =>
      t.res.lo == 0xC5 && t.res.hi == 0xCD) = true := by
  decide

/-- V12, whatever the register held. -/
theorem test_crcRange :
    gives (command 0x08 { ranged 0 6 with crcLo := 0x00 }) (fun t =>
      t.res.lo == 0xC5 && t.res.hi == 0xCD && t.crcLo == 0xC5) = true := by
  decide

/-- V13. -/
theorem test_crcRange_outside :
    gives (command 0x08 (ranged 250 7)) (fun t => t.status == 0x62 && t.errInfo == 0 && t.crcLo == 0xFF) = true := by
  decide

/-- V14, the two residues. -/
theorem test_residues :
    crcBytes [0x01, 0x03, 0x00, 0x00, 0x00, 0x0A, 0xC5, 0xCD] = (0x00, 0x00) ∧
    lrcOf (sumBytes [0x01, 0x03, 0x00, 0x00, 0x00, 0x0A, 0xF2]) = 0x00 := by
  decide

/-- V15, the corners of the tables. -/
theorem test_tableCorners :
    [0x00, 0x01, 0x02, 0x03, 0xFF].map (tableAt tblLo) = [0x00, 0xC1, 0x81, 0x40, 0x40] ∧
    [0x00, 0x01, 0x02, 0x03, 0xFF].map (tableAt tblHi) = [0x00, 0xC0, 0xC1, 0x01, 0x40] := by
  decide

/-- R52: both tables have 256 entries. -/
theorem test_tableLengths : tblLo.length = 256 ∧ tblHi.length = 256 := by
  constructor <;> simp only [tblLo, tblHi, List.length_append] <;> rfl

/-! ### Adapter -/

/-- V19. -/
theorem test_rxAvail :
    gives (command 0x10 { base with rx := [0x01, 0x03, 0x02] }) (fun t => t.res.cnt == 3 && t.rx.length == 3) = true := by
  decide

/-- V19. -/
theorem test_rxRead :
    gives (step (waiting .xRead { base with rx := [0x01, 0x03, 0x02] })) (fun t =>
      t.res.lo == 0x01 && t.rx == [0x03, 0x02] && t.status == 0x02) = true := by
  decide

/-- V60, V60b: the poll at 100 times out, the poll at 90 does not. -/
theorem test_rxRead_timeout :
    gives (step (waiting .xRead { base with cfg.readTimeout := 95, time.now := 100 })) (fun t => t.status == 0x12) = true ∧
    gives (step (waiting .xRead { base with cfg.readTimeout := 95, time.now := 90 })) (fun t =>
      t.status == 0x01 && t.sleeping && t.time.tNext == 100) = true := by
  decide

/-- V18c, the second character. -/
theorem test_ascRxToken :
    gives (step (waiting (.xTok2 0x30) { base with rx := [0x41] })) (fun t =>
      t.res.tok == 0 && t.res.lo == 0x0A && t.status == 0x02) = true := by
  decide

/-- V18d: the `':'` after `CR` is consumed and lost. -/
theorem test_ascRxToken_badHex :
    gives (step (waiting (.xTok2 0x0D) { base with rx := [0x3A, 0x30] })) (fun t =>
      t.status == 0x82 && t.errInfo == 0x003A && t.rx == [0x30]) = true := by
  decide

/-- V19b. -/
theorem test_txWrite :
    gives (command 0x13 (ranged 0 2)) (fun t => t.tx == [0x01, 0x03] && t.res.cnt == 2) = true := by
  decide

/-- V19b. -/
theorem test_ascTxWrite :
    gives (command 0x14 (ranged 0 2)) (fun t => t.tx == [0x30, 0x31, 0x30, 0x33] && t.res.cnt == 4) = true := by
  decide

/-- V19d: the flush stops at `FLUSH_MAX`. -/
theorem test_rxFlush :
    gives (step (waiting (.xFlush 2) { base with params.flushMax := 2, rx := [0xCC] })) (fun t =>
      t.res.cnt == 2 && t.rx == [0xCC] && t.status == 0x02) = true ∧
    gives (step (waiting (.xFlush 1) { base with params.flushMax := 2, rx := [0xBB, 0xCC] })) (fun t =>
      t.rx == [0xCC] && t.status == 0x01) = true := by
  decide

/-- V19g: five of eight bytes at the deadline. -/
theorem test_echoDiscard :
    gives (step (waiting (.xEcho 5 8) { base with time.now := 1000 })) (fun t =>
      t.res.echoCnt == 5 && t.status == 0x06) = true := by
  decide

/-- V19h. -/
theorem test_echoDiscard_none :
    gives (step (waiting (.xEcho 0 0) { base with rx := [0x01] })) (fun t =>
      t.res.echoCnt == 0 && t.status == 0x02 && t.rx == [0x01]) = true := by
  decide

/-- V16, V16b. -/
theorem test_hexEnc :
    gives (command 0x17 { base with op.byte := 0x3A }) (fun t => t.res.lo == 0x33 && t.res.hi == 0x41) = true ∧
    gives (command 0x17 { base with op.byte := 0xA0 }) (fun t => t.res.lo == 0x41 && t.res.hi == 0x30) = true := by
  decide

/-- V17. -/
theorem test_hexDec :
    gives (command 0x18 { base with op.byte := 0x46, op.byte2 := 0x32 }) (fun t => t.res.lo == 0xF2) = true := by
  decide

/-- V17c: the first bad character is reported; V17d: the second, where the first is good. -/
theorem test_hexDec_badHex :
    gives (command 0x18 { base with op.byte := 0x47, op.byte2 := 0x2F }) (fun t =>
      t.status == 0x82 && t.errInfo == 0x0047) = true ∧
    gives (command 0x18 { base with op.byte := 0x39, op.byte2 := 0x40 }) (fun t => t.errInfo == 0x0040) = true := by
  decide

/-! ### ASCII codec -/

/-- V20w. -/
theorem test_ascWriteFrame :
    gives (command 0x20 request) (fun t =>
      t.tx == [0x3A, 0x30, 0x31, 0x30, 0x33, 0x30, 0x30, 0x30, 0x30, 0x30, 0x30, 0x30, 0x41, 0x46, 0x32, 0x0D, 0x0A] &&
      t.obuf == content 0 [0x01, 0x03, 0x00, 0x00, 0x00, 0x0A, 0xF2] && t.olen == 7 && t.res.cnt == 17 &&
      t.lrcAcc == 0x0E) = true := by
  decide

/-- V20z. -/
theorem test_ascWriteFrame_tooLong :
    gives (command 0x20 { request with op.len := 254 }) (fun t =>
      t.status == 0x62 && t.tx == [] && t.obuf == request.obuf) = true := by
  decide

/-- R185: the scan begins with nothing accumulated. -/
theorem test_ascReadFrame :
    gives (command 0x21 { base with ilen := 6 }) (fun t => t.ilen == 0 && t.seq == .aSeek && t.status == 0x01) = true := by
  decide

/-- V24, V24b: a start token restarts the accumulation. -/
theorem test_ascStart :
    gives (exec .ascStart (reading .aHi [0x01, 0x03] base)) (fun t => t.ilen == 0 && t.seq == .aHi) = true ∧
    gives (exec .ascStart (reading .aLf [0x01, 0x03] base)) (fun t => t.ilen == 0 && t.seq == .aHi) = true := by
  decide

/-- V27: `CR` in the low-nibble position fails the frame. -/
theorem test_ascCr :
    gives (exec .ascCr (reading (.aLo 0x42) [0x01] base)) (fun t => t.ilen == 0 && t.seq == .aSeek) = true ∧
    gives (exec .ascCr (reading .aHi [0x01] base)) (fun t => t.ilen == 1 && t.seq == .aLf) = true := by
  decide

/-- V20: `LF` completes the good frame. -/
theorem test_ascLf :
    gives (exec .ascLf (reading .aLf [0x01, 0x03, 0x02, 0x12, 0x34, 0xB4] base)) (fun t =>
      t.status == 0x02 && t.res.uid == 0x01 && t.res.fc == 0x03 && t.res.len == 3 && t.lrcAcc == 0x4C && t.ilen == 6) =
      true := by
  decide

/-- V22 and V23: a wrong LRC and a foreign unit id are discarded. -/
theorem test_ascLf_discarded :
    gives (exec .ascLf (reading .aLf [0x01, 0x03, 0x02, 0x12, 0x34, 0xB5] base)) (fun t =>
      t.status == 0x01 && t.seq == .aSeek) = true ∧
    gives (exec .ascLf (reading .aLf [0x02, 0x03, 0x02, 0x12, 0x34, 0xB3] base)) (fun t =>
      t.status == 0x01 && t.seq == .aSeek) = true := by
  decide

/-- R100: each row of hex characters as low nibble after `'0'`. -/
theorem test_hexCharacters :
    [(Instr.ascHex07 0x37, 0x07), (.ascHex89 0x38, 0x08), (.ascHexA, 0x0A), (.ascHexBC 0x43, 0x0C),
      (.ascHexDE 0x44, 0x0D), (.ascHexF, 0x0F)].all (fun p =>
        gives (exec p.1 (reading (.aLo 0x30) [0x01] base)) (fun t =>
          t.ibuf == content 0 [0x01, p.2] && t.ilen == 2 && t.seq == .aHi)) = true := by
  decide

/-- V2A: the eleventh byte does not fit a buffer of ten. -/
theorem test_hexCharacter_noRoom :
    gives (exec (.ascHex07 0x30) (reading (.aLo 0x30) [1, 2, 3, 4, 5, 6, 7, 8, 9, 10] { base with params.bufSize := 10 }))
      (fun t => t.ilen == 0 && t.seq == .aSeek) = true := by
  decide

/-- V29c: the deadline is tested before availability. -/
theorem test_deadline :
    gives (step (waiting .aHi { base with cfg.overallTimeout := 1000, time.now := 1000, rx := [0x30] })) (fun t =>
      t.status == 0x52 && t.rx == [0x30]) = true := by
  decide

/-! ### RTU codec -/

/-- V50w. -/
theorem test_rtuWriteFrame :
    gives (command 0x22 request) (fun t =>
      t.tx == [0x01, 0x03, 0x00, 0x00, 0x00, 0x0A, 0xC5, 0xCD] && t.olen == 8 && t.res.cnt == 0 && t.crcLo == 0xC5 &&
      t.crcHi == 0xCD && t.status == 0x02) = true := by
  decide

/-- V50y. -/
theorem test_rtuWriteFrame_tooLong :
    gives (command 0x22 { request with op.len := 253 }) (fun t => t.status == 0x62 && t.tx == []) = true := by
  decide

/-- R210: the reader begins with the unit id. -/
theorem test_rtuReadFrame :
    gives (command 0x23 { base with ilen := 6 }) (fun t => t.ilen == 0 && t.seq == .rUid) = true := by
  decide

/-- R112, R212: the function codes of class `COUNT8`, as bytes received; R213: `18` is of class `COUNT16`. -/
theorem test_countFunctionCodes :
    [0x01, 0x02, 0x03, 0x04, 0x0C, 0x11, 0x14, 0x15, 0x17].all (fun f =>
      gives (step (reading .rFc [0x01] { base with rx := [f] })) (fun t =>
        t.seq == .rCnt false && t.ibuf == content 0 [0x01, f])) = true ∧
    gives (step (reading .rFc [0x01] { base with rx := [0x18] })) (fun t => t.seq == .rCnt true) = true := by
  decide

/-- R112, R214 to R216: the function codes of fixed length wait for six, three and eight bytes. -/
theorem test_fixedFunctionCodes :
    [0x05, 0x06, 0x0B, 0x0F, 0x10].all (fun f =>
      gives (step (reading .rFc [0x01] { base with rx := [f] })) (fun t => t.seq == .rBody 5)) = true ∧
    [0x07, 0x08].all (fun f =>
      gives (step (reading .rFc [0x01] { base with rx := [f] })) (fun t => t.seq == .rBody 2)) = true ∧
    gives (step (reading .rFc [0x01] { base with rx := [0x16] })) (fun t => t.seq == .rBody 7) = true := by
  decide

/-- V35, V36: a word of each unknown row. -/
theorem test_unknownFunctionCodes :
    [0x00, 0x09, 0x0A, 0x0D, 0x0E, 0x12, 0x19, 0x1B, 0x1F, 0x20, 0x7F, 0x83].all (fun f =>
      gives (step (reading .rFc [0x01] { base with rx := [f, 0x02] })) (fun t =>
        t.status == 0x32 && t.errInfo == f.setWidth 16 && t.rx == [0x02])) = true := by
  decide

/-- R113: the table can be extended with exception codes of class `FIXED3` (V36). -/
theorem test_extendedFunctionCode :
    gives (step (reading .rFc [0x01] { base with rx := [0x83], params.fcTable := [(0x83, .fixed3)] })) (fun t =>
      t.seq == .rBody 2) = true := by
  decide

/-- V41: `TooLong` at the count byte. -/
theorem test_tooLong :
    gives (step (reading (.rCnt false) [0x01, 0x03] { base with params.bufSize := 16, rx := [0x10, 0x00] })) (fun t =>
      t.status == 0x42 && t.errInfo == 0x0015 && t.ilen == 3 && t.rx == [0x00]) = true := by
  decide

/-- V41c: the length is saturated. -/
theorem test_tooLong_saturated :
    gives (step (reading (.rCnt2 0xFF) [0x01, 0x18, 0xFF] { base with rx := [0xFF] })) (fun t =>
      t.status == 0x42 && t.errInfo == 0xFFFF) = true := by
  decide

/-- V30: the last byte of the good frame. -/
theorem test_rtuFrame :
    gives (step (reading (.rBody 0) [0x01, 0x03, 0x02, 0x12, 0x34, 0xB5] { base with rx := [0x33, 0xAA] })) (fun t =>
      t.status == 0x02 && t.res.uid == 0x01 && t.res.fc == 0x03 && t.res.len == 3 && t.ilen == 7 && t.crcLo == 0xB5 &&
      t.crcHi == 0x33 && t.rx == [0xAA]) = true := by
  decide

/-- V39: a wrong CRC byte; V38: a foreign unit id. -/
theorem test_rtuFrame_notTaken :
    gives (step (reading (.rBody 0) [0x01, 0x03, 0x02, 0x12, 0x34, 0xB5] { base with rx := [0x32] })) (fun t =>
      t.status == 0x22 && t.errInfo == 0x32B5 && t.crcHi == 0x33) = true ∧
    gives (step (reading (.rBody 0) [0x02, 0x03, 0x02, 0x12, 0x34, 0xF1] { base with rx := [0x33] })) (fun t =>
      t.status == 0x01 && t.seq == .rUid && t.ilen == 0) = true := by
  decide

/-! ### Host control -/

/-- V71. -/
theorem test_nop :
    gives (command 0x00 { base with status := 0x72, errInfo := 9 }) (fun t => t.status == 0x02 && t.errInfo == 0) = true := by
  decide

/-- V70, V70b, and a word of every other illegal row. -/
theorem test_illegal :
    [0x09, 0x0A, 0x0C, 0x19, 0x1B, 0x1F, 0x24, 0x2F, 0x30, 0x7F, 0xFF].all (fun c =>
      gives (command c base) (fun t => t.status == 0x72 && t.errInfo == c.setWidth 16)) = true := by
  decide

/-- R267: an illegal code leaves `T0_OP`, and `NOP` records it. -/
theorem test_illegal_time :
    gives (command 0x09 { base with time.now := 7 }) (fun t => t.time.t0Op == 0 && t.cmd == 0x09) = true ∧
    gives (command 0x00 { base with time.now := 7 }) (fun t => t.time.t0Op == 7) = true := by
  decide

/-- V72: a write while an operation waits is dropped. -/
theorem test_writeWhileBusy :
    gives (step { waiting .rUid base with moves := [.hostWrite 0x02 10] }) (fun t =>
      t.cfg.readTimeout == 500 && t.status == 0x09) = true := by
  decide

/-- V73. -/
theorem test_statusWrite :
    gives (step { base with status := 0x0E, moves := [.hostWrite 0x30 0x04] }) (fun t => t.status == 0x0A) = true ∧
    gives (step { base with status := 0x0A, moves := [.hostWrite 0x30 0xFF] }) (fun t => t.status == 0x02) = true := by
  decide

/-! ### Witnesses: states and operands that meet the hypotheses of the obligations -/

/-- Every range clause of `LrcRangeSumsRange`, `CrcRangeIsBitwise`, `TxWritePushesRange` and `AscTxWritePushesHexPairs`:
the last range that fits and the first that does not. -/
theorem test_ranges_meet :
    (ranged 250 6).op.off.toNat + (ranged 250 6).op.len.toNat ≤ (ranged 250 6).params.bufSize ∧
    (ranged 250 7).params.bufSize < (ranged 250 7).op.off.toNat + (ranged 250 7).op.len.toNat := by
  decide

/-- `RxReadReturnsByte`. -/
theorem test_rxRead_meets :
    ({ base with rx := [0x5A] } : State).rx = 0x5A :: [] ∧
    ({ base with cfg.readTimeout := 0 } : State).rx = [] ∧ ({ base with cfg.readTimeout := 0 } : State).cfg.readTimeout = 0 := by
  decide

/-- `TokenReaderReadsTokens`: the characters of its six clauses, at the edges of the hex ranges. -/
theorem test_tokens_meet :
    isHex 0x30 = true ∧ isHex 0x46 = true ∧ isHex 0x2F = false ∧ isHex 0x47 = false ∧ isHex 0x39 = true ∧
    isHex 0x41 = true ∧ isHex 0x40 = false ∧ (0x47 : Byte) ≠ 0x3A ∧ (0x47 : Byte) ≠ 0x0D ∧ (0x3A : Byte) ≠ 0x0A := by
  decide

/-- `RxFlushDrainsQueue`, `EchoDiscardRemovesEcho`: the shortest window, and an echo that is all there. -/
theorem test_phases_meet :
    1 ≤ ({ base with params.flushWindowMs := 1 } : State).params.flushWindowMs ∧
    ({ base with op.len := 2, rx := [0x01, 0x02] } : State).op.len.toNat ≤
      ({ base with op.len := 2, rx := [0x01, 0x02] } : State).rx.length := by
  decide

/-- The echo discard of `want` bytes after `got` meets RX empty at the time `now`, at its deadline or before it. -/
def shortEchoAt (q : Seq) (got want : Nat) (now : Word) (passed : Bool) : Bool :=
  let s : State := { waiting q base with time.now := now }
  (decide (s.seq = .xEcho got want) || decide (s.seq = .wEcho got want)) && decide (got < want) && s.rx.isEmpty &&
    decide (s.cfg.echoTimeout.toNat ≤ (s.time.now - s.time.t0Phase).toNat) == passed

/-- `ShortEchoIsFlagged`: at the deadline and one millisecond before it. -/
theorem test_shortEcho_meets :
    shortEchoAt (.xEcho 7 8) 7 8 1000 true = true ∧ shortEchoAt (.wEcho 0 8) 0 8 1000 true = true ∧
    shortEchoAt (.xEcho 7 8) 7 8 999 false = true ∧ shortEchoAt (.wEcho 0 8) 0 8 999 false = true := by
  decide

/-- `EchoDiscardRemovesEcho`: the echo of a write-frame operation with its last byte in RX, and with nothing left to
take. -/
theorem test_writeEcho_meets :
    (waiting (.wEcho 7 8) { base with rx := [0x01] }).seq = .wEcho 7 8 ∧
    (waiting (.wEcho 7 8) { base with rx := [0x01] }).rx = 0x01 :: [] ∧ 7 < 8 ∧
    8 - 7 ≤ (waiting (.wEcho 7 8) { base with rx := [0x01] }).rx.length ∧
    (waiting (.wEcho 8 8) base).seq = .wEcho 8 8 ∧ 8 - 8 ≤ (waiting (.wEcho 8 8) base).rx.length := by
  decide

/-- `HexDecDecodesPair`: its three clauses. -/
theorem test_hexDec_meets :
    isHex ({ base with op.byte := 0x46, op.byte2 := 0x30 } : State).op.byte = true ∧
    isHex ({ base with op.byte := 0x46, op.byte2 := 0x30 } : State).op.byte2 = true ∧
    isHex ({ base with op.byte := 0x47 } : State).op.byte = false ∧
    isHex ({ base with op.byte := 0x39, op.byte2 := 0x3A } : State).op.byte2 = false := by
  decide

/-- `AscWriteFrameBuildsFrame`, `RtuWriteFrameBuildsFrame`: the longest body that fits and the first that does not. -/
theorem test_frames_meet :
    ({ base with op.len := 253 } : State).op.len.toNat + 3 ≤ base.params.bufSize ∧
    base.params.bufSize < ({ base with op.len := 254 } : State).op.len.toNat + 3 ∧
    ({ base with op.len := 252 } : State).op.len.toNat + 4 ≤ base.params.bufSize ∧
    base.params.bufSize < ({ base with op.len := 253 } : State).op.len.toNat + 4 := by
  decide

/-- `AscFrameRoundTrip`: the writer is `request`, the reader `base` (whose RX `test_roundTrip_line` gives). -/
theorem test_roundTrip_meets :
    request.op.len.toNat = [0x00, 0x00, 0x00, (0x0A : Byte)].length ∧ 4 + 3 ≤ request.params.bufSize ∧
    request.params.bufSize < 2 ^ 17 ∧ request.tx = [] ∧ request.cfg.ctrl.getLsbD 0 = false ∧
    (∀ k b, [0x00, 0x00, 0x00, (0x0A : Byte)][k]? = some b → byteAt .obuf (2 + k) request = some b) ∧
    base.params.bufSize = request.params.bufSize ∧ base.cfg.unitId = request.op.uid ∧ base.unitIdWritten = true ∧
    base.cfg.overallTimeout = 0 := by
  refine ⟨rfl, by decide, by decide, rfl, rfl, ?_, rfl, rfl, rfl, rfl⟩
  intro k b h
  match k, h with
  | 0, h | 1, h | 2, h | 3, h =>
    simp only [List.getElem?_cons_zero, List.getElem?_cons_succ, Option.some.injEq] at h
    subst h
    rfl
  | k + 4, h => simp at h

/-- `AscFrameRoundTrip`: what `request` pushes (V20w) stands in the reader's RX, with a byte behind it. -/
theorem test_roundTrip_line :
    gives (exec .ascWriteFrame request) (fun t => decide (({ base with rx := [0x3A, 0x30, 0x31, 0x30, 0x33, 0x30, 0x30,
      0x30, 0x30, 0x30, 0x30, 0x30, 0x41, 0x46, 0x32, 0x0D, 0x0A, 0xAA] } : State).rx = t.tx ++ [0xAA])) = true := by
  decide

/-- `StartCharacterRestarts`, `CrCharacterBeginsEnd`, `LfCharacterWithoutCr`: the wait states of their clauses. -/
theorem test_characters_meet :
    (waiting .aSeek base).seq = .aSeek ∧ (waiting .aHi base).seq = .aHi ∧ (waiting (.aLo 0x41) base).seq = .aLo 0x41 ∧
    (waiting .aLf base).seq = .aLf ∧ (waiting .xTok1 base).seq = .xTok1 ∧
    (waiting (.xTok2 0x0D) base).seq = .xTok2 0x0D ∧ (waiting (.xTok2 0x41) base).seq = .xTok2 0x41 ∧
    (0x41 : Byte) ≠ 0x0D := by
  decide

/-- `HexCharactersAccumulate`: the last byte for which there is room, and the first for which there is none. -/
theorem test_hexCharacters_meet :
    hexRow (.ascHex07 0x37) = true ∧ (Instr.ascHex07 0x37).WellFormed ∧ hexRow .ascHexF = true ∧ Instr.ascHexF.WellFormed ∧
    ({ waiting (.aLo 0x30) base with ilen := 255 } : State).ilen.toNat < base.params.bufSize ∧
    ({ waiting (.aLo 0x30) base with ilen := 256 } : State).ilen.toNat = base.params.bufSize := by
  decide

/-- A whole buffer's content stands in it. -/
theorem test_content_holds (a b c : Byte) (q : Seq) : Holds .ibuf [a, b, c] (reading q [a, b, c] base) := by
  intro k x h
  match k, h with
  | 0, h | 1, h | 2, h =>
    simp only [List.getElem?_cons_zero, List.getElem?_cons_succ, Option.some.injEq] at h
    subst h
    rfl
  | k + 3, h => simp at h

/-- The reader has taken `CR` after `bs`, which is `uid :: fc :: body` and a last byte, all written, in a block whose
unit id is `unit`. -/
def frameReadAt (uid fc : Byte) (body : List Byte) (last unit : Byte) (goodLrc ours : Bool) : Bool :=
  let bs := uid :: fc :: body ++ [last]
  let s := reading .aLf bs { base with cfg.unitId := unit }
  decide (s.seq = .aLf) && decide (bs.length = s.ilen.toNat) && decide (s.ilen.toNat ≤ s.params.bufSize) &&
    s.unitIdWritten && decide (last = lrc8Of (uid :: fc :: body)) == goodLrc && decide (uid = s.cfg.unitId) == ours

/-- `AscFrameCheck`: the shortest frame, `01 07 F8` of V28c, with a good LRC and the configured unit id, then with a
wrong LRC, then of a foreign unit; and two bytes, one too few. -/
theorem test_ascFrame_meets :
    frameReadAt 0x01 0x07 [] 0xF8 0x01 true true = true ∧ frameReadAt 0x01 0x07 [] 0xF9 0x01 false true = true ∧
    frameReadAt 0x01 0x07 [] 0xF8 0x02 true false = true ∧
    [0x01, (0x07 : Byte)].length = (reading .aLf [0x01, 0x07] base).ilen.toNat ∧ [0x01, (0x07 : Byte)].length < 3 := by
  decide

/-- `DeadlineComesFirst`: exactly at the bound, in each wait state of the reader, with a character in RX. -/
theorem test_deadline_meets :
    [Seq.aSeek, .aHi, .aLo 0x30, .aLf].all (fun q =>
      let s : State := { waiting q base with cfg.overallTimeout := 50, time.now := 50, rx := [0x3A] }
      decide (s.seq = q) && decide (s.cfg.overallTimeout ≠ 0) &&
        decide (s.cfg.overallTimeout.toNat ≤ (s.time.now - s.time.t0Op).toNat)) = true := by
  decide

/-- `FlushThenTransmit`: each of the three reasons to stop, alone and at its edge. -/
theorem test_flush_meets :
    (waiting (.wFlush 0) base).seq = .wFlush 0 ∧ (waiting (.wFlush 0) base).rx = [] ∧
    (waiting (.wFlush 256) { base with rx := [0x00] }).params.flushMax ≤ 256 ∧
    ({ waiting (.wFlush 1) base with rx := [0x00], time.now := 100 } : State).params.flushWindowMs ≤
      (({ waiting (.wFlush 1) base with rx := [0x00], time.now := 100 } : State).time.now - base.time.t0Phase).toNat := by
  decide

/-- `FlushThenTransmit`: the last byte and the last millisecond of a flush that goes on. -/
theorem test_flushGoesOn_meets :
    let s : State := { waiting (.wFlush 255) base with rx := [0x00], time.now := 99 }
    s.seq = .wFlush 255 ∧ s.rx = 0x00 :: [] ∧ 255 < s.params.flushMax ∧
      (s.time.now - s.time.t0Phase).toNat < s.params.flushWindowMs := by
  decide

/-- `FunctionCodeGivesLength`: a code of each class, and a fixed length that just fits and one that just does not. -/
theorem test_functionCodes_meet :
    Instr.fc03ReadHoldingRegisters.key.format = .rtuFc ∧ Instr.fc03ReadHoldingRegisters.WellFormed ∧
    (Instr.fcUnknown80FF 0xFF).key.format = .rtuFc ∧ (Instr.fcUnknown80FF 0xFF).WellFormed ∧
    (reading .rFc [0x01] base).seq = .rFc ∧ (reading .rFc [0x01] base).ilen.toNat < base.params.bufSize ∧
    base.params.bufSize < 2 ^ 17 ∧
    [0x03, 0x18, 0x06, 0x07, 0x16, 0xFF].map (classIn base.params.fcTable) =
      [.count8, .count16, .fixed6, .fixed3, .fixed8, .unknown] ∧
    (1 + 1) + 8 ≤ ({ base with params.bufSize := 10 } : State).params.bufSize ∧
    ¬ (2 + 1) + 8 ≤ ({ base with params.bufSize := 10 } : State).params.bufSize := by
  decide

/-- `CountGivesLength`: the count byte of V41b just fits, the next does not; and the count word. -/
theorem test_counts_meet :
    (reading (.rCnt false) [0x01, 0x03] { base with params.bufSize := 16, rx := [0x0B] }).rx = 0x0B :: [] ∧
    (reading (.rCnt false) [0x01, 0x03] { base with params.bufSize := 16, rx := [0x0B] }).ilen.toNat < 16 ∧
    (2 + 1) + ((0x0B : Byte).toNat + 2) ≤ 16 ∧ ¬ (2 + 1) + ((0x0C : Byte).toNat + 2) ≤ 16 ∧ 16 < 2 ^ 17 ∧
    (reading (.rCnt true) [0x01, 0x18] base).seq = .rCnt true ∧
    (reading (.rCnt2 0x00) [0x01, 0x18, 0x00] base).seq = .rCnt2 0x00 := by
  decide

/-- `RtuFrameCheck`: the frame `01 07 6D E3 DD` of V32 before its last byte, for the configured unit and as one of a
foreign unit (its CRC, and a wrong one, are in `test_crcs_meet`). -/
theorem test_rtuFrame_meets :
    [0x01, 0x02].all (fun unit =>
      let s := reading (.rBody 0) [0x01, 0x07, 0x6D, 0xE3] { base with cfg.unitId := unit, rx := [0xDD] }
      decide (s.seq = .rBody 0) && decide (s.rx = [0xDD]) &&
        decide ([0x01, 0x07, (0x6D : Byte)].length + 1 = s.ilen.toNat) && decide (s.ilen.toNat < s.params.bufSize) &&
        decide (s.params.bufSize < 2 ^ 17) && s.unitIdWritten &&
        decide ((0x01 : Byte) = s.cfg.unitId) == decide (unit = 0x01)) = true := by
  decide

/-- `RtuFrameCheck`: the bytes of that frame stand in IBUF. -/
theorem test_rtuFrame_holds : Holds .ibuf (0x01 :: 0x07 :: [0x6D] ++ [0xE3])
    (reading (.rBody 0) [0x01, 0x07, 0x6D, 0xE3] { base with rx := [0xDD] }) := by
  intro k x h
  match k, h with
  | 0, h | 1, h | 2, h | 3, h =>
    simp only [List.cons_append, List.nil_append, List.getElem?_cons_zero, List.getElem?_cons_succ,
      Option.some.injEq] at h
    subst h
    rfl
  | k + 4, h => simp at h

/-- `RtuFrameCheck`: the CRC of that frame, and a wrong one. -/
theorem test_crcs_meet :
    (0xDD : Byte) ++ (0xE3 : Byte) = crc16Of [0x01, 0x07, 0x6D] ∧
    (0xDC : Byte) ++ (0xE3 : Byte) ≠ crc16Of [0x01, 0x07, 0x6D] := by
  decide +kernel

/-- RX holds a frame of the configured unit and class `cls` with its CRC, and a byte behind it. -/
def frameInRx (fc : Byte) (body : List Byte) (low high : Byte) (cls : LenClass) : Bool :=
  let s : State := { base with rx := 0x01 :: fc :: body ++ [low, high] ++ [0xAA] }
  s.unitIdWritten && decide (body.length + 4 ≤ s.params.bufSize) && decide (s.params.bufSize < 2 ^ 17) &&
    decide (classIn s.params.fcTable fc = cls) && decide (high ++ low = crc16Of (s.cfg.unitId :: fc :: body)) &&
    decide (s.rx = s.cfg.unitId :: fc :: body ++ [low, high] ++ [0xAA])

/-- `RtuReaderExtractsFrame`: a frame of each class (V37, V32, V31, V33, V34). -/
theorem test_rtuExtract_meets :
    frameInRx 0x03 [0x00] 0x20 0xF0 .count8 = true ∧ frameInRx 0x07 [0x6D] 0xE3 0xDD .fixed3 = true ∧
    frameInRx 0x06 [0x00, 0x01, 0x00, 0x03] 0x98 0x0B .fixed6 = true ∧
    frameInRx 0x16 [0x00, 0x04, 0x00, 0xF2, 0x00, 0x25] 0x67 0xEE .fixed8 = true ∧
    frameInRx 0x18 [0x00, 0x06, 0x00, 0x02, 0x01, 0xB8, 0x12, 0x84] 0x19 0x18 .count16 = true := by
  decide +kernel

/-- `RtuReaderExtractsFrame`: the lengths the two count classes ask of those bodies. -/
theorem test_rtuExtract_counts :
    ([] : List Byte).length = (0x00 : Byte).toNat ∧
    [0x00, 0x02, 0x01, 0xB8, 0x12, (0x84 : Byte)].length = 256 * (0x00 : Byte).toNat + (0x06 : Byte).toNat := by
  decide

/-- `IllegalCodesAreBadCommands`: an illegal row with a word and one without. -/
theorem test_illegal_meets :
    illegalRow .illegal19 = true ∧ Instr.illegal19.WellFormed ∧ illegalRow (.illegal80FF 0xFF) = true ∧
    (Instr.illegal80FF 0xFF).WellFormed := by
  decide

/-- `IllegalCodesAreBadCommands`: an idle block and the write of an illegal code. -/
theorem test_illegalWrite_meets :
    ({ base with moves := [.hostWrite 0x32 0x24] } : State).moves = .hostWrite 0x32 0x24 :: [] ∧
    statusBusy base.status = false ∧ decodesTo .cmd8 ((0x24 : Word).setWidth 8) (.illegal2427 0x24) = true ∧
    illegalRow (.illegal2427 0x24) = true := by
  decide

/-- `StepIssuesCommand`, `StatusWriteClearsSticky`, `RegisterWriteThenRead`, `ResetInputSetsRegisters`: an idle block
and the moves they name. -/
theorem test_hostMoves_meet :
    ({ base with moves := [.hostWrite 0x32 0x23] } : State).moves = .hostWrite 0x32 0x23 :: [] ∧
    statusBusy base.status = false ∧ decodesTo .cmd8 ((0x23 : Word).setWidth 8) .rtuReadFrame = true ∧
    ({ base with moves := [.hostWrite 0x30 0xFF] } : State).moves = .hostWrite 0x30 0xFF :: [] ∧
    ({ base with moves := [.hostWrite 0x12 0xFFFFF, .hostRead 0x12] } : State).moves =
      .hostWrite 0x12 0xFFFFF :: .hostRead 0x12 :: [] ∧
    regAt 0x05 = none ∧ regAt 0x51 = none ∧ ({ base with moves := [.reset] } : State).moves = .reset :: [] := by
  decide

/-- `StepRunsReceivedCode`: a reader that has slept until now, with a code of its format in RX, in each wait state. -/
theorem test_receivedCodes_meet :
    [(Seq.rFc, (0x03 : Byte)), (.xTok1, 0x3A), (.xTok2 0x0D, 0x0A), (.aSeek, 0x3A), (.aHi, 0x30), (.aLo 0x30, 0x46),
        (.aLf, 0x0A)].all (fun c =>
      let s : State := { waiting c.1 base with rx := [c.2], sleeping := true, time.now := 10, time.tNext := 10 }
      s.moves.isEmpty && decide (s.time.now = s.time.tNext) && decide (s.seq = c.1) && !deadlinePassed s) = true ∧
    decodesTo .rtuFc 0x03 .fc03ReadHoldingRegisters = true ∧ decodesTo .ascChar 0x3A .ascStart = true ∧
    decodesTo .ascChar 0x0A .ascLf = true ∧ decodesTo .ascChar 0x30 (.ascHex07 0x30) = true ∧
    decodesTo .ascChar 0x46 .ascHexF = true := by
  decide

/-- `StepRunsReceivedCode`: characters of no row, next to the hex ranges, a lower-case letter and a code from `0x80` on;
the wait states are those of `test_receivedCodes_meet`. -/
theorem test_otherCharacters_meet :
    [0x2F, 0x3B, 0x40, 0x47, 0x61, 0x80, 0xFF].all (fun c =>
      decide ((match decodeByte .ascChar c with | .ok _ => none | .error e => some e) = some (.noRow .ascChar))) = true := by
  decide

/-- A character of no row fails the frame. -/
theorem test_otherCharacter_step :
    gives (step (reading (.aLo 0x30) [0x01, 0x03] { base with rx := [0x61, 0x3A] })) (fun t =>
      t.seq == .aSeek && t.ilen == 0 && t.rx == [0x3A]) = true := by
  decide

/-- `RegisterWriteThenRead`: a read-only register, and the accesses to the last byte of each buffer. -/
theorem test_hostAccess_meets :
    ({ base with moves := [.hostWrite 0x29 5, .hostRead 0x29] } : State).moves = .hostWrite 0x29 5 :: .hostRead 0x29 :: [] ∧
    statusBusy base.status = false ∧ 255 < base.params.bufSize ∧
    ({ base with moves := [.hostStore .obuf 255 0xAA] } : State).moves = .hostStore .obuf 255 0xAA :: [] ∧
    ({ base with moves := [.hostStore .ibuf 255 0xAA] } : State).moves = .hostStore .ibuf 255 0xAA :: [] ∧
    ({ base with ibuf := [(255, 0xAA)], moves := [.hostLoad .ibuf 255] } : State).moves = .hostLoad .ibuf 255 :: [] ∧
    byteAt .ibuf 255 { base with ibuf := [(255, 0xAA)], moves := [.hostLoad .ibuf 255] } = some 0xAA := by
  decide

/-- `WritesWhileBusyAreDropped`: a register write, a write of `CMD` and a buffer write while an operation waits. -/
theorem test_busyWrites_meet :
    [Move.hostWrite 0x02 10, .hostWrite 0x32 0x00, .hostStore .obuf 0 0xFF].all (fun m =>
      let s : State := { waiting .rUid base with moves := [m] }
      decide (s.moves = m :: []) && statusBusy s.status) = true ∧
    regAt 0x02 ≠ none ∧ regAt 0x32 ≠ none := by
  decide

/-- `s` at the time `now` with the overall bound `overall` waits in `q` with RX empty, the bound of the read passed or
not, and the overall bound off or not passed. -/
def emptyReadAt (q : Seq) (now : Word) (overall : Half) (passed : Bool) (s : State) : Bool :=
  let u : State := { s with time.now := now, cfg.overallTimeout := overall }
  decide (u.seq = q) && u.rx.isEmpty &&
    decide (u.cfg.readTimeout.toNat ≤ (u.time.now - u.time.t0Read).toNat) == passed &&
    (decide (u.cfg.overallTimeout = 0) || decide ((u.time.now - u.time.t0Op).toNat < u.cfg.overallTimeout.toNat))

/-- `EmptyReadPolls`: exactly at the bound, and one millisecond before it, in each wait state of a timed read. -/
theorem test_emptyRead_meets :
    [Seq.xRead, .xTok1, .xTok2 0x30, .rUid, .rFc, .rCnt false, .rCnt2 0x00, .rBody 0].all (fun q =>
      [(500, true), (499, false)].all fun c => emptyReadAt q c.1 0 c.2 (waiting q base)) = true := by
  decide

/-- `EmptyReadPolls`, the ASCII reader: with no overall bound, and one millisecond before the overall bound, which is
the larger and then the smaller of the two. -/
theorem test_emptyReadA_meets :
    [Seq.aSeek, .aHi, .aLo 0x30, .aLf].all (fun q =>
      [(500, 0, true), (499, 0, false), (500, 501, true), (49, 50, false)].all fun c =>
        emptyReadAt q c.1 c.2.1 c.2.2 (waiting q base)) = true := by
  decide

/-- `NoTimeoutWhileByteAvailable`, `TurnsKeepQueuesInOrder`: a turn that answers, with a byte in RX. -/
theorem test_turn_meets :
    (waiting .rUid { base with rx := [0x01] }).seq ≠ .idle ∧ (waiting .rUid { base with rx := [0x01] }).rx ≠ [] ∧
    gives (turn (waiting .rUid { base with rx := [0x01] })) (fun t => t.rx == []) = true := by
  decide

/-- `SilentReadTimesOut`: an empty line and nothing else to come. -/
theorem test_silence_meets : base.rx = [] ∧ base.moves = [] := by
  decide

/-- `FailedReadsWriteNoResults`: a turn that ends with an error. -/
theorem test_failedRead_meets :
    gives (turn (waiting .rUid { base with cfg.readTimeout := 0 })) (fun t =>
      statusErr t.status == 1 && statusDone t.status && !statusBusy t.status && decide (t.seq = .idle)) = true ∧
    (waiting .rUid base).seq ≠ .idle := by
  decide

/-- `LineTouchesOnlyQueues`: each move of the line. -/
theorem test_lineMoves_meet :
    ({ base with moves := [.lineRx 0x01] } : State).moves = .lineRx 0x01 :: [] ∧
    ({ base with moves := [.lineTx], tx := [0x01] } : State).moves = .lineTx :: [] ∧
    ({ base with moves := [.lineEcho], tx := [0x01] } : State).moves = .lineEcho :: [] := by
  decide

/-- `DecodeOfEncode`, `EncodeOfDecode`: a well-formed instruction, and a byte that decodes. -/
theorem test_encoding_meets :
    (Instr.ascHexDE 0x45).WellFormed ∧ decodesTo .ascChar 0x45 (.ascHexDE 0x45) = true := by
  decide

/-- `StatusFollowsSequencer`, `BuffersStayCanonical`, `SleepIsBounded`, `InvariantIsKept`, `NoStepStops`: a busy reader
asleep before its wake time, whose step answers. -/
theorem test_invariant_meets :
    BlockInv { reading (.rCnt false) [0x01, 0x03] base with sleeping := true, time.tNext := 10 } ∧
    accessOutside (reading (.rCnt false) [0x01, 0x03] base) = false ∧
    gives (step { reading (.rCnt false) [0x01, 0x03] base with sleeping := true, time.tNext := 10 }) (fun t =>
      t.time.now == 1) = true := by
  decide

/-- `NoStepStops`: the last byte a host may store, and the first it may not. -/
theorem test_access_meets :
    accessOutside { base with moves := [.hostStore .obuf 255 0x00] } = false ∧
    accessOutside { base with moves := [.hostStore .obuf 256 0x00] } = true ∧
    accessOutside { base with moves := [.hostLoad .ibuf 255] } = false ∧
    accessOutside { base with moves := [.hostLoad .ibuf 256] } = true := by
  decide

end Sys2Proof.Tests
end

/-! ## What a step can do, and the invariant of the block

`Worked` says what an operation may do to the registers and buffers inside one atomic step, `Acted` how such a step
may end, and `StepCase` what one step of the system can be. The invariant is then kept case by case. -/

namespace Sys2Proof.Machine

/-! ### Work on the registers and buffers -/

/-- From `s` to `u` the parameters are as before, and the buffers, the reserved bits, `RES_TOK` and the frame lengths
are as the block's invariant wants them if they were so. -/
structure Kept (s u : State) : Prop where
  params : u.params = s.params
  obuf   : memoryOk s.params.bufSize s.obuf = true → memoryOk s.params.bufSize u.obuf = true
  ibuf   : memoryOk s.params.bufSize s.ibuf = true → memoryOk s.params.bufSize u.ibuf = true
  fields : FieldsOk s → FieldsOk u
  olen   : s.olen.toNat ≤ s.params.bufSize → u.olen.toNat ≤ s.params.bufSize
  ilen   : s.ilen.toNat ≤ s.params.bufSize → u.ilen.toNat ≤ s.params.bufSize

/-- From `s` to `u` the block has worked on its registers and buffers and has not yet reported anything: beyond `Kept`,
`ERR_INFO` and the fields of `STATUS` but for the sticky bits are as before. Nothing is said of the sequencer, the time
and the queues. -/
structure Worked (s u : State) : Prop extends Kept s u where
  busy    : statusBusy u.status = statusBusy s.status
  done    : statusDone u.status = statusDone s.status
  err     : statusErr u.status = statusErr s.status
  errInfo : u.errInfo = s.errInfo

namespace Worked

theorem refl (s : State) : Worked s s := ⟨⟨rfl, id, id, id, id, id⟩, rfl, rfl, rfl, rfl⟩

variable {s u : State} {n : Nat}

theorem fetch (hw : Worked s u) (sp : Space) (i : Nat) : Worked s (fetch sp i u).2 := by
  rw [fetch_state]
  exact { hw with }

theorem fetchBytes (hw : Worked s u) (sp : Space) (i n : Nat) : Worked s (fetchBytes sp i n u).2 := by
  rw [fetchBytes_state]
  exact { hw with }

theorem readUnitId (hw : Worked s u) : Worked s (readUnitId u).2 := by
  rw [readUnitId_state]
  exact { hw with }

/-- A store inside the buffer (R62). -/
theorem store (hw : Worked s u) (hn : n < u.params.bufSize) (sp : Space) (b : Byte) : Worked s (store sp n b u) := by
  rw [hw.params] at hn
  cases sp with
  | obuf => exact { hw with obuf := fun h => memoryOk_memSet _ _ _ _ hn (hw.obuf h) }
  | ibuf => exact { hw with ibuf := fun h => memoryOk_memSet _ _ _ _ hn (hw.ibuf h) }

/-- A frame of `n` bytes stands in OBUF. -/
theorem setOlen (hw : Worked s u) (hn : n ≤ u.params.bufSize) : Worked s { u with olen := BitVec.ofNat 17 n } :=
  { hw with olen := fun _ => hw.params ▸ (Nat.mod_le _ _).trans hn }

theorem clearIlen (hw : Worked s u) : Worked s { u with ilen := 0 } := { hw with ilen := fun _ => Nat.zero_le _ }

theorem popped (hw : Worked s u) (rest : List Byte) : Worked s (popped rest u) := { hw with }

theorem txPush (hw : Worked s u) (bs : List Byte) : Worked s (txPush bs u) := { hw with }

/-- A byte is appended at `IBUF:ILEN` (R210). -/
theorem append (hw : Worked s u) (hi : u.ilen.toNat < u.params.bufSize) (b : Byte) :
    Worked s { Machine.store .ibuf u.ilen.toNat b u with ilen := u.ilen + 1 } :=
  { hw.store hi .ibuf b with ilen := fun _ => hw.params ▸ (Nat.mod_le _ _).trans hi }

/-- An echo discard leaves its count, and its flag if the echo was short (R34, R160). -/
theorem echoShort (hw : Worked s u) (c : Word) :
    Worked s { u with res.echoCnt := c, status := statusSetEchoShort u.status } :=
  { hw with
    busy := (statusBusy_setEchoShort _).trans hw.busy
    done := (statusDone_setEchoShort _).trans hw.done
    err := (statusErr_setEchoShort _).trans hw.err }

theorem hostViolation (hw : Worked s u) : Worked s (hostViolation u) :=
  { hw with
    busy := (statusBusy_setHostViol _).trans hw.busy
    done := (statusDone_setHostViol _).trans hw.done
    err := (statusErr_setHostViol _).trans hw.err }

theorem placeHeader (hw : Worked s u) (hn : 1 < u.params.bufSize) : Worked s (placeHeader u) :=
  (hw.store (Nat.zero_lt_of_lt hn) .obuf _).store hn .obuf _

theorem ascAttach (hw : Worked s u) (hf : u.op.len.toNat + 3 ≤ u.params.bufSize) (covered : List Byte) :
    Worked s (ascAttach covered u) :=
  { (hw.store (by omega) .obuf _).setOlen hf with }

/-- The ASCII frame is built inside OBUF (R180). -/
theorem ascBuild (hw : Worked s u) (hf : u.op.len.toNat + 3 ≤ u.params.bufSize) : Worked s (ascBuild u) :=
  ((hw.placeHeader (by omega)).fetchBytes .obuf 0 _).ascAttach (by simpa [Machine.placeHeader]) _

theorem rtuAttach (hw : Worked s u) (hf : u.op.len.toNat + 4 ≤ u.params.bufSize) (covered : List Byte) :
    Worked s (rtuAttach covered u) := by
  have hc : Worked s (setCrc (crcBytes covered) u) := { hw with }
  have hb := (hc.store (show u.op.len.toNat + 2 < u.params.bufSize by omega) .obuf (crcBytes covered).1).store
    (show u.op.len.toNat + 3 < u.params.bufSize by omega) .obuf (crcBytes covered).2
  exact { hb.setOlen hf with }

/-- The RTU frame is built inside OBUF (R200). -/
theorem rtuBuild (hw : Worked s u) (hf : u.op.len.toNat + 4 ≤ u.params.bufSize) : Worked s (rtuBuild u) :=
  ((hw.placeHeader (by omega)).fetchBytes .obuf 0 _).rtuAttach (by simpa [Machine.placeHeader]) _

end Worked

/-! ### How an atomic step of the sequencer ends -/

/-- An operation waits at `SEQ`: it is neither idle nor at `S_EXEC` (R31). -/
def Seq.waits : Seq → Bool
  | .idle | .exec => false
  | _             => true

/-- The sequencer waits in a state of a read or an echo discard, in which alone it sleeps (R153). -/
def Seq.polls : Seq → Bool
  | .idle | .exec | .xFlush _ | .wFlush _ => false
  | _                                     => true

theorem waits_iff (q : Seq) : q.waits = true ↔ q ≠ .idle ∧ q ≠ .exec := by
  cases q <;> simp [Seq.waits]

theorem polls_iff (s : State) : s.seq.polls = true ↔ s.seq.waits = true ∧ flushing s = false := by
  cases h : s.seq <;> simp [Seq.polls, Seq.waits, flushing, h]

/-- One atomic step of the sequencer leads from `s` to a state of `Acted H s`, where `H` is what the values held in
`SEQ` rest on: the operation ends, or it waits, perhaps asleep. -/
inductive Acted (H : Prop) (s : State) : State → Prop
  | ends {u} (hw : Worked s u) (err : BitVec 4) (info : Half) (hc : err ≤ 8) (hi : err = 0 → info = 0) :
      Acted H s (ended err info u)
  | waits {u} (hw : Worked s u) (hq : u.seq.waits = true) (hz : SleepOk u) (hs : H → sequencerOk u = true) :
      Acted H s u

/-- If a result is a next state, `Acted` says how it came about. -/
def Acts (H : Prop) (s : State) : Result → Prop
  | .next t    => Acted H s t
  | .fault _   => True
  | .refused _ => True

theorem acts_iff {H : Prop} {s : State} {r : Result} : Acts H s r ↔ ∀ t, r = .next t → Acted H s t := by
  cases r <;> simp [Acts]

/-- What the values held in `SEQ` rest on at a turn. -/
abbrev HeldOk (s : State) : Prop := paramsOk s.params = true ∧ sequencerOk s = true

section
variable {H : Prop} {s u : State}

theorem acts_complete (hw : Worked s u) : Acts H s (complete u) := Acted.ends hw 0 0 (by decide) fun _ => rfl

theorem errCode_ne_zero (e : Err) : errCode e ≠ 0 := by cases e <;> decide

theorem errCode_le (e : Err) : errCode e ≤ 8 := by cases e <;> decide

theorem acts_raise (hw : Worked s u) (e : Err) (info : Half) : Acts H s (raise e info u) :=
  Acted.ends hw _ _ (errCode_le e) fun h => absurd h (errCode_ne_zero e)

theorem acts_beginRead (hw : Worked s u) {q : Seq} (hq : q.waits = true)
    (hs : H → sequencerOk (beginRead q u) = true) : Acts H s (.next (beginRead q u)) :=
  Acted.waits { hw with } hq (fun h => nomatch h) hs

theorem acts_beginPhase (hw : Worked s u) {q : Seq} (hq : q.waits = true)
    (hs : H → sequencerOk (beginPhase q u) = true) : Acts H s (.next (beginPhase q u)) :=
  Acted.waits { hw with } hq (fun h => nomatch h) hs

/-! ### The adapter's operations -/

theorem acts_badHex (hw : Worked s u) (c : Byte) : Acts H s (badHex c u) := acts_raise hw ..

theorem acts_tokenDone (hw : Worked s u) {kind : BitVec 2} (hk : kind ≠ 3) (b : Byte) :
    Acts H s (tokenDone kind b u) :=
  acts_complete { hw with fields := fun h => ⟨(hw.fields h).1, hk⟩ }

theorem acts_tokenFirst (hw : Worked s u) (c : Byte) : Acts H s (tokenFirst c u) := by
  unfold tokenFirst
  split
  · exact acts_tokenDone hw (by decide) 0
  · split
    · exact acts_beginRead hw rfl fun _ => by simp [sequencerOk, ‹c = charCr›]
    · split
      · exact acts_beginRead hw rfl fun _ => by simp [sequencerOk, ‹isHex c = true›]
      · exact acts_badHex hw c

theorem acts_tokenSecond (hw : Worked s u) (first c : Byte) : Acts H s (tokenSecond first c u) := by
  unfold tokenSecond
  split
  · split
    · exact acts_tokenDone hw (by decide) 0
    · exact acts_badHex hw c
  · split
    · exact acts_tokenDone hw (by decide) _
    · exact acts_badHex hw c

theorem acts_pushDone (hw : Worked s u) (bs : List Byte) : Acts H s (pushDone bs u) := acts_complete { hw with }

theorem acts_execLrcRange (hw : Worked s u) : Acts H s (execLrcRange u) := by
  unfold execLrcRange
  split
  · exact acts_complete { hw.fetchBytes _ _ _ with }
  · exact acts_raise hw ..

theorem acts_execCrcRange (hw : Worked s u) : Acts H s (execCrcRange u) := by
  unfold execCrcRange
  split
  · exact acts_complete { hw.fetchBytes _ _ _ with }
  · exact acts_raise hw ..

theorem acts_execTxWrite (hw : Worked s u) : Acts H s (execTxWrite u) := by
  unfold execTxWrite
  split
  · exact acts_pushDone (hw.fetchBytes ..) _
  · exact acts_raise hw ..

theorem acts_execAscTxWrite (hw : Worked s u) : Acts H s (execAscTxWrite u) := by
  unfold execAscTxWrite
  split
  · exact acts_pushDone (hw.fetchBytes ..) _
  · exact acts_raise hw ..

theorem acts_execHexDec (hw : Worked s u) : Acts H s (execHexDec u) := by
  unfold execHexDec
  split
  · split
    · exact acts_complete { hw with }
    · exact acts_badHex hw _
  · exact acts_badHex hw _

/-! ### The ASCII frame codec -/

theorem acts_ascTransmit (hw : Worked s u) (bs : List Byte) : Acts H s (ascTransmit bs u) := by
  unfold ascTransmit
  split
  · exact acts_beginPhase hw rfl fun _ => by simp [sequencerOk]
  · exact acts_complete hw

theorem acts_ascPush (hw : Worked s u) (bs : List Byte) : Acts H s (ascPush bs u) := by
  unfold ascPush
  refine acts_ascTransmit ?_ bs
  exact { hw.txPush _ with }

theorem acts_execAscWriteFrame (hw : Worked s u) : Acts H s (execAscWriteFrame u) := by
  unfold execAscWriteFrame
  split
  · rename_i hf
    exact acts_ascPush ((hw.ascBuild ((frameFits_iff 3 u).1 hf)).fetchBytes ..) _
  · exact acts_raise hw ..

theorem acts_ascSeek (hw : Worked s u) : Acts H s (ascSeek u) :=
  acts_beginRead hw.clearIlen rfl fun _ => by simp [sequencerOk]

theorem acts_ascAccum (hw : Worked s u) : Acts H s (ascAccum u) :=
  acts_beginRead hw.clearIlen rfl fun _ => by simp [sequencerOk]

theorem acts_ascByte (hw : Worked s u) (b : Byte) : Acts H s (ascByte b u) := by
  unfold ascByte
  split
  · exact acts_ascSeek hw
  · split
    · exact acts_beginRead (hw.append ‹_› b) rfl fun _ => by simp [sequencerOk]
    · trivial

theorem acts_ascFilter (hw : Worked s u) : Acts H s (ascFilter u) := by
  have hr := (hw.fetch .ibuf 0).readUnitId.fetch .ibuf 1
  unfold ascFilter ascDeliver
  split
  · exact acts_complete { hr with }
  · exact acts_ascSeek hr

theorem acts_ascCheck (hw : Worked s u) : Acts H s (ascCheck u) := by
  have hr : Worked s (ascSum u) := { hw.fetchBytes _ _ _ with }
  unfold ascCheck ascVerify
  split
  · exact acts_ascSeek hw
  · split
    · trivial
    · split
      · exact acts_ascFilter (hr.fetch ..)
      · exact acts_ascSeek (hr.fetch ..)

theorem acts_ascHigh (hw : Worked s u) (c : Byte) : Acts H s (ascHigh c u) := by
  unfold ascHigh
  split
  · exact acts_ascAccum hw
  · split
    · exact acts_beginRead hw rfl fun _ => by simp [sequencerOk]
    · split
      · exact acts_beginRead hw rfl fun _ => by simpa [sequencerOk]
      · exact acts_ascSeek hw

theorem acts_ascLow (hw : Worked s u) (high c : Byte) : Acts H s (ascLow high c u) := by
  unfold ascLow
  split
  · exact acts_ascAccum hw
  · split
    · exact acts_ascByte hw _
    · exact acts_ascSeek hw

theorem acts_ascEnd (hw : Worked s u) (c : Byte) : Acts H s (ascEnd c u) := by
  unfold ascEnd
  split
  · exact acts_ascAccum hw
  · split
    · exact acts_ascCheck hw
    · exact acts_ascSeek hw

/-- A character is taken, in whatever wait state (R92, R158, R185). -/
theorem acts_takeCharacter (hw : Worked s u) (c : Byte) : Acts H s (takeCharacter c u) := by
  unfold takeCharacter
  split
  · exact acts_tokenFirst hw c
  · exact acts_tokenSecond hw _ c
  · split
    · exact acts_ascAccum hw
    · exact acts_ascSeek hw
  · exact acts_ascHigh hw c
  · exact acts_ascLow hw _ c
  · exact acts_ascEnd hw c
  all_goals trivial

/-! ### The RTU frame codec -/

theorem acts_rtuTransmit (hw : Worked s u) : Acts H s (rtuTransmit u) := by
  have hr := hw.fetchBytes .obuf 0 (u.op.len.toNat + 4)
  unfold rtuTransmit rtuPush
  split
  · exact acts_beginPhase (hr.txPush _) rfl fun _ => by simp [sequencerOk]
  · exact acts_complete { hr with }

theorem acts_rtuFlushed (hw : Worked s u) (n : Nat) : Acts H s (rtuFlushed n u) := acts_rtuTransmit { hw with }

theorem frameFits_rtuBuild (u : State) : frameFits 4 (rtuBuild u) = frameFits 4 u := by
  simp [frameFits, rtuBuild, rtuAttach, placeHeader]

theorem acts_execRtuWriteFrame (hw : Worked s u) : Acts H s (execRtuWriteFrame u) := by
  unfold execRtuWriteFrame
  split
  · rename_i hf
    have hb := hw.rtuBuild ((frameFits_iff 4 u).1 hf)
    unfold rtuSend
    split
    · refine acts_beginPhase hb rfl fun _ => ?_
      have : frameFits 4 (beginPhase (.wFlush 0) (rtuBuild u)) = true := (frameFits_rtuBuild u).trans hf
      simp [sequencerOk, this]
    · exact acts_rtuTransmit hb
  · exact acts_raise hw ..

theorem acts_rtuStart (hw : Worked s u) : Acts H s (rtuStart u) :=
  acts_beginRead hw.clearIlen rfl fun _ => by simp [sequencerOk]

theorem acts_append (hw : Worked s u) (b : Byte) {k : State → Result}
    (hk : ∀ v, Worked s v → v.params = u.params → v.ilen = u.ilen + 1 → Acts H s (k v)) :
    Acts H s (append b k u) := by
  unfold append
  split
  · exact hk _ (hw.append ‹_› b) rfl rfl
  · trivial

theorem sequencerOk_rBody {more : Nat} (h : u.seq = .rBody more) : sequencerOk u = true ↔
    2 ≤ u.ilen.toNat ∧ 5 ≤ u.ilen.toNat + more + 1 ∧ u.ilen.toNat + more + 1 ≤ u.params.bufSize := by
  simp only [sequencerOk, h, Bool.and_eq_true, decide_eq_true_eq, and_assoc]

/-- `rem` bytes remain of a frame of at least five bytes, two or more of which have been read (R210, R220). -/
theorem acts_rtuLength (hw : Worked s u) {rem : Nat} (h0 : 0 < rem)
    (hl : H → 2 ≤ u.ilen.toNat ∧ 5 ≤ u.ilen.toNat + rem) : Acts H s (rtuLength rem u) := by
  unfold rtuLength
  split
  · refine acts_beginRead hw rfl fun hh => ?_
    have := hl hh
    rw [sequencerOk_rBody rfl, beginRead_ilen, beginRead_params]
    omega
  · exact acts_raise hw ..

theorem acts_rtuClass (hw : Worked s u) (f : Byte) (hl : H → u.ilen = 2) : Acts H s (rtuClass f u) := by
  have fixed {rem : Nat} (h3 : 3 ≤ rem) : Acts H s (rtuLength rem u) :=
    acts_rtuLength hw (by omega) fun hh => by simp [hl hh]; omega
  unfold rtuClass
  split
  · exact acts_raise hw ..
  · exact acts_beginRead hw rfl fun hh => by simp [sequencerOk, hl hh]
  · exact acts_beginRead hw rfl fun hh => by simp [sequencerOk, hl hh]
  · exact fixed (by decide)
  · exact fixed (by decide)
  · exact fixed (by decide)

theorem acts_rtuUnitId (hw : Worked s u) (b : Byte) (hl : H → u.ilen = 0) : Acts H s (rtuUnitId b u) :=
  acts_append hw b fun _ hv _ hi => acts_beginRead hv rfl fun hh => by simp [sequencerOk, hi, hl hh]

theorem acts_takeFunctionCode (hw : Worked s u) (f : Byte) (hl : H → u.seq = .rFc → u.ilen = 1) :
    Acts H s (takeFunctionCode f u) := by
  unfold takeFunctionCode
  split
  · exact acts_append hw f fun _ hv _ hi => acts_rtuClass hv f fun hh => by rw [hi, hl hh ‹_›]; rfl
  · trivial

theorem acts_rtuCount (hw : Worked s u) (wide : Bool) (c : Byte) (hl : H → u.ilen = 2) :
    Acts H s (rtuCount wide c u) := by
  refine acts_append hw c fun v hv _ hi => ?_
  cases wide with
  | true => exact acts_beginRead hv rfl fun hh => by simp [sequencerOk, hi, hl hh]
  | false => exact acts_rtuLength hv (by omega) fun hh => by simp [hi, hl hh]; omega

theorem acts_rtuCountLow (hw : Worked s u) (high low : Byte) (hl : H → u.ilen = 3) :
    Acts H s (rtuCountLow high low u) :=
  acts_append hw low fun _ hv _ hi => acts_rtuLength hv (by omega) fun hh => by simp [hi, hl hh]; omega

theorem acts_rtuCheck (hw : Worked s u) : Acts H s (rtuCheck u) := by
  have hs : Worked s (rtuSum (u.ilen.toNat - 2) u) := { hw.fetchBytes .ibuf 0 _ with }
  have hr := (hs.fetch .ibuf (u.ilen.toNat - 2)).fetch .ibuf (u.ilen.toNat - 2 + 1)
  have hf := (hr.fetch .ibuf 0).readUnitId.fetch .ibuf 1
  unfold rtuCheck rtuVerify rtuFilter rtuDeliver
  split
  · split
    · exact acts_complete { hf with }
    · exact acts_rtuStart hf
  · exact acts_raise hr ..

theorem acts_rtuBodyByte (hw : Worked s u) (more : Nat) (b : Byte)
    (hl : H → u.params.bufSize ≤ 65541 ∧ 2 ≤ u.ilen.toNat ∧ 5 ≤ u.ilen.toNat + more + 1 ∧
      u.ilen.toNat + more + 1 ≤ u.params.bufSize) : Acts H s (rtuBodyByte more b u) := by
  refine acts_append hw b fun v hv hp hi => ?_
  cases more with
  | zero => exact acts_rtuCheck hv
  | succ n =>
    refine acts_beginRead hv rfl fun hh => ?_
    have := hl hh
    have hn : v.ilen.toNat = u.ilen.toNat + 1 := by
      rw [hi]
      bv_omega
    rw [sequencerOk_rBody rfl, beginRead_ilen, beginRead_params, hn, hp]
    omega

end

theorem bufSize_le {p : Params} (hp : paramsOk p = true) : p.bufSize ≤ 65541 := by
  simp only [paramsOk, Bool.and_eq_true, decide_eq_true_eq] at hp
  exact hp.1.1.2

/-! ### Executing an instruction, and the sequencer's turn -/

/-- An instruction executed at the issue of a command: it runs at `S_EXEC`, where no reader takes a code (R231). -/
theorem acts_exec {s u : State} (hw : Worked s u) (hq : u.seq = .exec) : ∀ i, Acts True s (exec i u)
  | .nop => acts_complete hw
  | .lrcInit | .lrcUpdate | .lrcRead | .crcInit | .crcUpdate | .crcRead | .rxAvail | .hexEnc =>
    acts_complete { hw with }
  | .lrcRange => acts_execLrcRange hw
  | .crcRange => acts_execCrcRange hw
  | .rxRead | .ascRxToken => acts_beginRead hw rfl fun _ => rfl
  | .txWrite => acts_execTxWrite hw
  | .ascTxWrite => acts_execAscTxWrite hw
  | .rxFlush | .echoDiscard => acts_beginPhase hw rfl fun _ => by simp [sequencerOk]
  | .hexDec => acts_execHexDec hw
  | .ascWriteFrame => acts_execAscWriteFrame hw
  | .ascReadFrame => acts_ascSeek hw
  | .rtuWriteFrame => acts_execRtuWriteFrame hw
  | .rtuReadFrame => acts_rtuStart hw
  | .illegal09 | .illegal0A0B _ | .illegal0C0F _ | .illegal19 | .illegal1A1B _ | .illegal1C1F _ | .illegal2427 _
  | .illegal282F _ | .illegal303F _ | .illegal407F _ | .illegal80FF _ => acts_raise hw .badCommand _
  | .fc01ReadCoils | .fc02ReadDiscreteInputs | .fc03ReadHoldingRegisters | .fc04ReadInputRegisters
  | .fc05WriteSingleCoil | .fc06WriteSingleRegister | .fc07ReadExceptionStatus | .fc08Diagnostics
  | .fc0BGetCommEventCounter | .fc0CGetCommEventLog | .fc0FWriteMultipleCoils | .fc10WriteMultipleRegisters
  | .fc11ReportSlaveId | .fc14ReadFileRecord | .fc15WriteFileRecord | .fc16MaskWriteRegister
  | .fc17ReadWriteMultipleRegisters | .fc18ReadFifoQueue | .fcUnknown00 | .fcUnknown09 | .fcUnknown0A | .fcUnknown0D
  | .fcUnknown0E | .fcUnknown1213 _ | .fcUnknown19 | .fcUnknown1A1B _ | .fcUnknown1C1F _ | .fcUnknown203F _
  | .fcUnknown407F _ | .fcUnknown80FF _ =>
    acts_takeFunctionCode hw _ fun _ h => by rw [hq] at h; cases h
  | .ascStart | .ascCr | .ascLf | .ascHex07 _ | .ascHex89 _ | .ascHexA | .ascHexBC _ | .ascHexDE _ | .ascHexF =>
    acts_takeCharacter hw _

/-- The write of a value to `CMD` while idle (R231). -/
theorem acts_issue (v : Byte) (s : State) : Acts True (commandEntry v s) (issue v s) := by
  unfold issue
  split
  · exact acts_exec (.refl _) rfl _
  · exact acts_raise (.refl _) ..

section
variable {s : State}

/-- A poll that finds no byte sleeps for `POLL_MS` (R153). -/
theorem acts_sleep (hq : s.seq.polls = true) : Acts (HeldOk s) s (.next (sleep s)) := by
  obtain ⟨hw, hf⟩ := (polls_iff s).1 hq
  have hz : SleepOk (sleep s) := fun _ => ⟨((waits_iff _).1 hw).1, ((waits_iff _).1 hw).2, hf, by simp⟩
  exact Acted.waits { Worked.refl s with } hw hz And.right

theorem acts_readTurn (hq : s.seq.polls = true) {k : Byte → State → Result}
    (hk : ∀ b rest, Worked s (popped rest s) → Acts (HeldOk s) s (k b (popped rest s))) :
    Acts (HeldOk s) s (readTurn k s) := by
  unfold readTurn
  split
  · exact hk _ _ ((Worked.refl s).popped _)
  · unfold readEmpty
    split
    · exact acts_raise (.refl s) ..
    · exact acts_sleep hq

/-- A turn that awaits a character (R158, R185). -/
theorem acts_readTurn_character (hq : s.seq.polls = true) : Acts (HeldOk s) s (readTurn character s) :=
  acts_readTurn hq fun b _ hw => by
    rw [character_eq]
    exact acts_takeCharacter hw b

theorem acts_readTurnA (hq : s.seq.polls = true) : Acts (HeldOk s) s (readTurnA character s) := by
  unfold readTurnA
  split
  · exact acts_raise (.refl s) ..
  · exact acts_readTurn_character hq

theorem acts_flushTurn {wait : Nat → Seq} {k : Nat → State → Result} {n : Nat} (hq : (wait (n + 1)).waits = true)
    (hk : Acts (HeldOk s) s (k n s))
    (hs : HeldOk s → n < s.params.flushMax → sequencerOk { popped s.rx.tail s with seq := wait (n + 1) } = true) :
    Acts (HeldOk s) s (flushTurn wait k n s) := by
  unfold flushTurn
  split
  · exact hk
  · rename_i hf
    rw [flushStops_iff] at hf
    exact Acted.waits { Worked.refl s with } hq (fun h => nomatch h) fun hh => hs hh (by omega)

theorem acts_echoFinish (got want : Nat) : Acts (HeldOk s) s (echoFinish got want s) := by
  unfold echoFinish
  split
  · exact acts_complete ((Worked.refl s).echoShort _)
  · exact acts_complete { Worked.refl s with }

theorem acts_echoTurn {wait : Nat → Nat → Seq} {got want : Nat} (hq : s.seq.polls = true)
    (hw : (wait (got + 1) want).waits = true)
    (hs : HeldOk s → got ≠ want →
      ∀ rest, sequencerOk { popped rest s with seq := wait (got + 1) want } = true) :
    Acts (HeldOk s) s (echoTurn wait got want s) := by
  unfold echoTurn
  split
  · exact acts_echoFinish got want
  · split
    · exact Acted.waits { Worked.refl s with } hw (fun h => nomatch h) fun hh => hs hh ‹_› _
    · unfold echoEmpty
      split
      · exact acts_echoFinish got want
      · exact acts_sleep hq

/-- A turn of the sequencer (R31, R32). -/
theorem acts_turn (hi : s.seq ≠ .idle) : Acts (HeldOk s) s (turn s) := by
  have polls {q : Seq} (h : s.seq = q) (hq : q.polls = true) : s.seq.polls = true := h ▸ hq
  unfold turn
  cases h : s.seq with
  | idle => exact absurd h hi
  | exec => trivial
  | xRead => exact acts_readTurn (polls h rfl) fun _ _ hw => acts_complete { hw with }
  | xTok1 | xTok2 => exact acts_readTurn_character (polls h rfl)
  | aSeek | aHi | aLo | aLf => exact acts_readTurnA (polls h rfl)
  | rUid =>
    exact acts_readTurn (polls h rfl) fun b _ hw => acts_rtuUnitId hw b fun hh => by
      simpa [sequencerOk, h] using hh.2
  | rFc =>
    refine acts_readTurn (polls h rfl) fun b _ hw => ?_
    rw [functionCode_eq]
    exact acts_takeFunctionCode hw b fun hh _ => by simpa [sequencerOk, h] using hh.2
  | rCnt wide =>
    exact acts_readTurn (polls h rfl) fun b _ hw => acts_rtuCount hw wide b fun hh => by
      simpa [sequencerOk, h] using hh.2
  | rCnt2 high =>
    exact acts_readTurn (polls h rfl) fun b _ hw => acts_rtuCountLow hw high b fun hh => by
      simpa [sequencerOk, h] using hh.2
  | rBody more =>
    exact acts_readTurn (polls h rfl) fun b _ hw => acts_rtuBodyByte hw more b fun hh =>
      ⟨bufSize_le hh.1, (sequencerOk_rBody h).1 hh.2⟩
  | xFlush n =>
    exact acts_flushTurn rfl (acts_complete { Worked.refl s with }) fun _ hn => decide_eq_true hn
  | wFlush n =>
    refine acts_flushTurn rfl (acts_rtuFlushed (.refl s) n) fun hh hn => ?_
    have hf := hh.2
    simp only [sequencerOk, h, Bool.and_eq_true] at hf
    exact Bool.and_eq_true_iff.2 ⟨decide_eq_true hn, hf.2⟩
  | xEcho got want | wEcho got want =>
    refine acts_echoTurn (polls h rfl) rfl fun hh hg _ => ?_
    have hle : got ≤ want := by simpa [sequencerOk, h] using hh.2
    exact decide_eq_true (Nat.lt_of_le_of_ne hle hg)

end

/-! ### Accesses of the host -/

/-- A register write works on the block's registers alone, the reserved bits of `CFG_CTRL` staying zero (R42, R234). -/
theorem worked_writeRegister (r : Reg) (v : Word) (s : State) : Worked s (writeRegister r v s) := by
  have hs := Worked.refl s
  cases r with
  | cfgCtrl =>
    exact { hs with fields := fun h => ⟨by simp [writeRegister, ctrlStored, BitVec.and_assoc], h.2⟩ }
  | status =>
    exact { hs with
      busy := statusBusy_clear ..
      done := statusDone_clear ..
      err := statusErr_clear .. }
  | _ => exact { hs with }

/-- From `s` to `t` another agent than the sequencer has acted, and the sequencer stands where it stood. While an
operation runs, what `SEQ` holds rests on nothing that agent has changed. -/
structure Beside (s t : State) : Prop where
  worked   : Worked s t
  seq      : t.seq = s.seq
  sleeping : t.sleeping = s.sleeping
  time     : t.time = s.time
  held     : statusBusy s.status = true → sequencerOk t = sequencerOk s

theorem Beside.refl (s : State) : Beside s s := ⟨.refl s, rfl, rfl, rfl, fun _ => rfl⟩

theorem beside_hostViolation (s : State) : Beside s (hostViolation s) :=
  ⟨(Worked.refl s).hostViolation, rfl, rfl, rfl, fun _ => rfl⟩

/-- An idle write of a register leaves the sequencer and the time alone. -/
theorem beside_writeRegister (r : Reg) (v : Word) {s : State} (hb : statusBusy s.status ≠ true) :
    Beside s (writeRegister r v s) := by
  refine ⟨worked_writeRegister r v s, ?_, ?_, ?_, fun h => absurd h hb⟩ <;> cases r <;> rfl

theorem beside_hostWriteRegister (n : Nat) (v : Word) (s : State) : Beside s (hostWriteRegister n v s) := by
  unfold hostWriteRegister
  split
  · exact .refl s
  · split
    · exact beside_hostViolation s
    · exact beside_writeRegister _ v ‹_›

theorem beside_readTrue (r : Reg) (s : State) : Beside s (readTrue r s) := by
  unfold readTrue
  split
  · rw [readUnitId_state]
    exact { Beside.refl s with worked := { Worked.refl s with } }
  · exact { Beside.refl s with worked := { Worked.refl s with } }

theorem beside_readFree (w : Nat) (s : State) : Beside s (readFree w s) :=
  { Beside.refl s with worked := { Worked.refl s with } }

theorem beside_hostRead (n : Nat) (s : State) : Beside s (hostRead n s) := by
  unfold hostRead readRegister
  split
  · split
    · split
      · exact beside_readFree ..
      · exact beside_readTrue ..
    · exact beside_readTrue ..
  · exact { Beside.refl s with worked := { Worked.refl s with } }

theorem beside_hostStore {sp : Space} {i : Nat} {b : Byte} {s t : State} (h : hostStore sp i b s = .next t) :
    Beside s t := by
  unfold hostStore at h
  split at h
  · cases h
    exact beside_hostViolation s
  · split at h
    · split at h
      · cases h
        exact { Beside.refl s with worked := (Worked.refl s).store ‹_› .obuf b }
      · cases h
        exact .refl s
    · cases h

theorem beside_hostLoad {sp : Space} {i : Nat} {s t : State} (h : hostLoad sp i s = .next t) : Beside s t := by
  unfold hostLoad at h
  split at h
  · split at h
    · cases h
      exact beside_readFree 8 s
    · cases h
      rw [fetch_state]
      exact { Beside.refl s with worked := { Worked.refl s with } }
  · cases h

/-! ### One step of the system -/

/-- What one step of the system can do to `s`, the move it performs having been taken from the list. -/
inductive StepCase (s : State) : State → Prop
  | turns {t} (hi : s.seq ≠ .idle) (ha : Acted (HeldOk s) s t) : StepCase s t
  | issues {t} (hb : statusBusy s.status = false) (v : Byte) (ha : Acted True (commandEntry v s) t) : StepCase s t
  | beside {t} (hb : Beside s t) : StepCase s t
  | ticks (hd : due s = false) : StepCase s (tick s)
  | resets : StepCase s (resetInput s)

theorem stepCase_turn {s t : State} (hr : runnable s = true) (h : turn s = .next t) : StepCase s t := by
  have hi : s.seq ≠ .idle := by
    simp only [runnable, Bool.and_eq_true, decide_eq_true_eq] at hr
    exact hr.1
  exact .turns hi (acts_iff.1 (acts_turn hi) t h)

theorem stepCase_advance {s t : State} (h : advance s = .next t) : StepCase s t := by
  unfold advance at h
  split at h
  · exact stepCase_turn ‹_› h
  · cases h
    exact .ticks (by simp [due, *])

theorem stepCase_hostWrite {n : Nat} {v : Word} {s t : State} (h : hostWrite n v s = .next t) : StepCase s t := by
  unfold hostWrite at h
  split at h
  · rename_i hc
    exact .issues hc.2 _ (acts_iff.1 (acts_issue _ s) t h)
  · cases h
    exact .beside (beside_hostWriteRegister n v s)

theorem stepCase_moveStep {m : Move} {rest : List Move} {s t : State} (h : moveStep m rest s = .next t) :
    StepCase s t ∨ StepCase { s with moves := rest } t := by
  cases m <;> simp only [moveStep] at h
  case turn =>
    split at h
    · exact .inr (stepCase_turn (s := { s with moves := rest }) ‹_› h)
    · cases h
      exact .inr (.beside (.refl _))
  case tick =>
    split at h
    · rename_i hd
      simp only [due, Bool.and_eq_true] at hd
      exact .inl (stepCase_turn hd.1 h)
    · cases h
      exact .inr (.ticks (s := { s with moves := rest }) (Bool.eq_false_of_not_eq_true ‹_›))
  case hostWait =>
    split at h
    · cases h
      exact .inr (.beside (.refl _))
    · exact .inl (stepCase_advance h)
  case hostWrite => exact .inr (stepCase_hostWrite h)
  case hostStore => exact .inr (.beside (beside_hostStore h))
  case hostLoad => exact .inr (.beside (beside_hostLoad h))
  case hostRead =>
    cases h
    exact .inr (.beside (beside_hostRead ..))
  case reset =>
    cases h
    exact .inr .resets
  case lineRx | lineTx | lineEcho =>
    cases h
    exact .inr (.beside { Beside.refl _ with worked := { Worked.refl _ with } })

/-- Everything a step of the system can do, when it answers a next state. -/
theorem step_cases {s t : State} (h : step s = .next t) : ∃ rest, StepCase { s with moves := rest } t := by
  cases hm : s.moves with
  | nil =>
    rw [step_nil hm] at h
    exact ⟨s.moves, stepCase_advance h⟩
  | cons m rest =>
    rw [step_cons hm] at h
    rcases stepCase_moveStep h with hc | hc
    · exact ⟨s.moves, hc⟩
    · exact ⟨rest, hc⟩

/-! ### The invariant -/

theorem statusOk_reset : StatusOk State.reset := by decide

/-- While an operation runs nothing is reported (R30, R36, R231). -/
def Running (s : State) : Prop :=
  statusBusy s.status = true ∧ statusDone s.status = false ∧ statusErr s.status = 0 ∧ s.errInfo = 0

theorem running_of_statusOk {s : State} (h : StatusOk s) (hi : s.seq ≠ .idle) : Running s := by
  obtain ⟨hb, hq, -, he, -⟩ := h
  have hb' : statusBusy s.status = true := by simp [hb, hi]
  exact ⟨hb', (hq hb').1, (hq hb').2, he (hq hb').2⟩

theorem running_commandEntry (v : Byte) (s : State) : Running (commandEntry v s) := by
  simp [Running]

section
variable {H : Prop} {s t : State}

theorem Acted.statusOk (ha : Acted H s t) (hr : Running s) : StatusOk t := by
  cases ha with
  | ends hw err info hc hi => simpa [StatusOk] using ⟨hc, hi⟩
  | waits hw hq =>
    obtain ⟨hb, hd, he, hz⟩ := hr
    obtain ⟨hi, hx⟩ := (waits_iff _).1 hq
    simp [StatusOk, hw.busy, hw.done, hw.err, hw.errInfo, hb, hd, he, hz, hi, hx]

theorem Acted.sleepOk (ha : Acted H s t) : SleepOk t := by
  cases ha with
  | ends => exact fun h => nomatch h
  | waits hw hq hz => exact hz

theorem Acted.sequencerOk (ha : Acted H s t) (h : H) : sequencerOk t = true := by
  cases ha with
  | ends => rfl
  | waits _ _ _ hs => exact hs h

theorem Acted.kept (ha : Acted H s t) : Kept s t := by
  cases ha with
  | ends hw => exact { hw with }
  | waits hw => exact hw.toKept

theorem kept_resetInput (s : State) : Kept s (resetInput s) where
  params := rfl
  obuf _ := rfl
  ibuf _ := rfl
  fields _ := (by decide : FieldsOk State.reset)
  olen _ := Nat.zero_le _
  ilen _ := Nat.zero_le _

/-- Every step keeps the parameters, and the buffers, the reserved bits, `RES_TOK` and the frame lengths as the
invariant wants them (R6, R24, R42, R62). -/
theorem StepCase.kept (hc : StepCase s t) : Kept s t := by
  cases hc with
  | turns _ ha => exact ha.kept
  | issues _ v ha => exact { ha.kept with }
  | beside hb => exact hb.worked.toKept
  | ticks => exact { Worked.refl s with }
  | resets => exact kept_resetInput s

/-- Every step keeps `STATUS` and `SEQ` in agreement (R30, R31, R33, R36, R260). -/
theorem StepCase.statusOk (hc : StepCase s t) (h : StatusOk s) : StatusOk t := by
  cases hc with
  | turns hi ha => exact ha.statusOk (running_of_statusOk h hi)
  | issues _ v ha => exact ha.statusOk (running_commandEntry v s)
  | beside hb =>
    obtain ⟨hw, hq, -, -, -⟩ := hb
    simpa only [StatusOk, hw.busy, hw.done, hw.err, hw.errInfo, hq] using h
  | ticks => exact h
  | resets => exact statusOk_reset

/-- A millisecond passes only before the wake time (R153, log entry 3). -/
theorem sleepOk_tick (hd : due s = false) (h : SleepOk s) : SleepOk (tick s) := by
  intro hz
  obtain ⟨hi, hx, hf, hn⟩ := h hz
  refine ⟨hi, hx, hf, ?_⟩
  have hne : s.time.now ≠ s.time.tNext := by
    have hz' : s.sleeping = true := hz
    simpa [due, runnable, hi, hz', hf] using hd
  simp only [tick_time, Config.pollMs] at *
  bv_omega

/-- Every step keeps a sleeping sequencer before its wake time (R153). -/
theorem StepCase.sleepOk (hc : StepCase s t) (h : SleepOk s) : SleepOk t := by
  cases hc with
  | turns _ ha => exact ha.sleepOk
  | issues _ _ ha => exact ha.sleepOk
  | beside hb =>
    obtain ⟨-, hq, hz, ht, -⟩ := hb
    simpa only [SleepOk, flushing, hq, hz, ht] using h
  | ticks hd => exact sleepOk_tick hd h
  | resets => exact fun hz => nomatch hz

/-- Every step keeps the values held in `SEQ` in range (R31). -/
theorem StepCase.sequencerOk (hc : StepCase s t) (hs : StatusOk s) (h : HeldOk s) : sequencerOk t = true := by
  cases hc with
  | turns _ ha => exact ha.sequencerOk h
  | issues _ _ ha => exact ha.sequencerOk trivial
  | beside hb =>
    by_cases hi : s.seq = .idle
    · simp only [Machine.sequencerOk, hb.seq, hi]
    · rw [hb.held (running_of_statusOk hs hi).1]
      exact h.2
  | ticks => exact h.2
  | resets => rfl

/-- Every step keeps the invariant of the block. -/
theorem StepCase.blockInv (hc : StepCase s t) (h : BlockInv s) : BlockInv t := by
  obtain ⟨⟨ho, hi⟩, hs, hz, hf, hp, hol, hil, hq⟩ := h
  have hk := hc.kept
  refine ⟨?_, hc.statusOk hs, hc.sleepOk hz, hk.fields hf, ?_⟩
  · rw [BuffersOk, hk.params]
    exact ⟨hk.obuf ho, hk.ibuf hi⟩
  · rw [FrameOk, hk.params]
    exact ⟨hp, hk.olen hol, hk.ilen hil, hc.sequencerOk hs ⟨hp, hq⟩⟩

end

/-- Settles O55: at reset the buffers are empty, the block is idle and the parameters are those of the vectors. -/
theorem invariantHoldsAtReset : Obligations.InvariantHoldsAtReset :=
  ⟨⟨rfl, rfl⟩, statusOk_reset, (fun h => nomatch h), by decide, by decide⟩

/-- Settles O59: by the cases of a step, each of which keeps every part of the invariant. -/
theorem invariantIsKept : Obligations.InvariantIsKept := fun _ _ h hst => by
  obtain ⟨_, hc⟩ := step_cases hst
  exact hc.blockInv h

end Sys2Proof.Machine

/-! ## The invariant of `STATUS`, the ends of operations, and the turns of the readers -/

namespace Sys2Proof.Machine

/-- Settles O56: by the cases of a step, each of which keeps `STATUS` and `SEQ` in agreement. -/
theorem statusFollowsSequencer : Obligations.StatusFollowsSequencer := fun _ _ h hst => by
  obtain ⟨_, hc⟩ := step_cases hst
  exact hc.statusOk h

/-! ### The frames of an operation's end, and of a read's beginning -/

/-- The end of an operation reports the code and the detail and keeps the sticky bits (R270, R271). -/
theorem endsWith_ended (err : BitVec 4) (info : Half) (s : State) : EndsWith err info s (ended err info s) := by
  simp [EndsWith]

theorem sameHostSide_refl (s : State) : SameHostSide s s := ⟨rfl, rfl, rfl, rfl, rfl⟩

theorem sameSums_refl (s : State) : SameSums s s := ⟨rfl, rfl, rfl⟩

theorem sameRest_refl (s : State) : SameRest s s :=
  ⟨sameHostSide_refl s, fun _ => rfl, fun _ => rfl, ⟨rfl, rfl⟩, ⟨rfl, rfl⟩, rfl, rfl, rfl⟩

/-- An error entry reports its code, writes no result and no checksum, and leaves everything else alone (R270, R274). -/
theorem raise_reports (e : Err) (info : Half) (s : State) : Answers (raise e info s) fun t =>
    EndsWith (errCode e) info s t ∧ SameSums s t ∧ t.res = s.res ∧ SameRest s t :=
  ⟨_, rfl, endsWith_ended .., sameSums_refl s, rfl, sameRest_refl s⟩

/-- A read that begins changes only `T0_READ` and the sequencer (R154). -/
theorem sameWhileReading_beginRead (q : Seq) (s : State) : SameWhileReading s (beginRead q s) :=
  ⟨sameHostSide_refl s, fun _ => rfl, fun _ => rfl, sameSums_refl s, rfl, rfl, ⟨rfl, rfl⟩, rfl, rfl, rfl⟩

/-- A frame reader begins anew in `q` with nothing accumulated (R25, R185, R210). -/
theorem beginRead_empty (q : Seq) (s : State) : Answers (.next (beginRead q { s with ilen := 0 })) fun t =>
    WaitsIn q s t ∧ t.ilen = 0 ∧ SameWhileReading s t :=
  ⟨_, rfl, ⟨rfl, rfl, rfl, rfl⟩, rfl, sameWhileReading_beginRead q s⟩

/-- Settles O24: both operations begin their reader anew. -/
theorem readFramesStartEmpty : Obligations.ReadFramesStartEmpty :=
  ⟨rfl, rfl, fun s => ⟨beginRead_empty .aSeek s, beginRead_empty .rUid s⟩⟩

/-- Settles O12: the turn of `S_X_READ` is one turn of a timed read. -/
theorem rxReadReturnsByte : Obligations.RxReadReturnsByte := by
  refine ⟨rfl, fun s => ⟨beginRead .xRead s, rfl, ⟨rfl, rfl, rfl, rfl⟩, rfl, sameWhileReading_beginRead _ s, ?_, ?_⟩⟩
  · intro b rest hrx
    refine ⟨_, readTurn_cons hrx, rfl, rfl, rfl, endsWith_ended .., sameSums_refl s, sameHostSide_refl s, ⟨rfl, rfl⟩,
      fun _ => rfl, fun _ => rfl, rfl, rfl, rfl⟩
  · intro hrx h0
    have hb : s.cfg.readTimeout.toNat ≤ elapsed s.time.now (beginRead .xRead s) := by simp [h0]
    have ht : turn (beginRead .xRead s) = raise .timeout 0 (beginRead .xRead s) := readTurn_timeout hrx hb
    rw [ht]
    exact raise_reports .timeout 0 (beginRead .xRead s)

/-! ### What a waiting operation's turn is -/

/-- In the wait states of `ASC_READ_FRAME` a turn is one turn of the read with the overall deadline (R186). -/
theorem turn_frameReader {s : State} {high : Byte}
    (h : s.seq = .aSeek ∨ s.seq = .aHi ∨ s.seq = .aLo high ∨ s.seq = .aLf) : turn s = readTurnA character s := by
  rcases h with h | h | h | h <;> simp only [turn, h]

/-- In the wait states of `ASC_RX_TOKEN` a turn is one turn of a timed read (R158). -/
theorem turn_tokenReader {s : State} {first : Byte} (h : s.seq = .xTok1 ∨ s.seq = .xTok2 first) :
    turn s = readTurn character s := by
  rcases h with h | h <;> simp only [turn, h]

/-- In an echo discard a turn is one turn of its loop (R160). -/
theorem turn_echo {s : State} {got want : Nat} (h : s.seq = .xEcho got want ∨ s.seq = .wEcho got want) :
    ∃ wait, turn s = echoTurn wait got want s := by
  rcases h with h | h
  · exact ⟨.xEcho, by simp only [turn, h]⟩
  · exact ⟨.wEcho, by simp only [turn, h]⟩

/-- An echo discard that finds RX empty gives up once its deadline has passed: the operation is done, the count
reported and `ECHO_SHORT` set (R34, R160). -/
theorem turn_echo_deadline {s : State} {got want : Nat} (h : s.seq = .xEcho got want ∨ s.seq = .wEcho got want)
    (hlt : got < want) (hrx : s.rx = []) (hb : s.cfg.echoTimeout.toNat ≤ elapsed s.time.t0Phase s) :
    turn s = complete { s with res.echoCnt := BitVec.ofNat 32 got, status := statusSetEchoShort s.status } := by
  obtain ⟨wait, ht⟩ := turn_echo h
  simp [ht, echoTurn, echoEmpty, echoFinish, hrx, hlt, hlt.ne, hb]

/-- An echo discard that finds RX empty before its deadline sleeps (R160). -/
theorem turn_echo_sleep {s : State} {got want : Nat} (h : s.seq = .xEcho got want ∨ s.seq = .wEcho got want)
    (hlt : got < want) (hrx : s.rx = []) (hb : elapsed s.time.t0Phase s < s.cfg.echoTimeout.toNat) :
    turn s = .next (sleep s) := by
  obtain ⟨wait, ht⟩ := turn_echo h
  simp [ht, echoTurn, echoEmpty, hrx, hlt.ne, Nat.not_le.2 hb]

theorem readTurnA_deadline {k : Byte → State → Result} {s : State} (h : deadlinePassed s = true) :
    readTurnA k s = raise .deadline 0 s := by
  simp [readTurnA, h]

theorem readTurnA_before {k : Byte → State → Result} {s : State} (h : deadlinePassed s = false) :
    readTurnA k s = readTurn k s := by
  simp [readTurnA, h]

/-- Settles O18: the turn gives up once the deadline has passed, and sleeps before. -/
theorem shortEchoIsFlagged : Obligations.ShortEchoIsFlagged := by
  intro s got want hseq hlt hrx
  refine ⟨fun hb => ?_, fun hb => ?_⟩
  · rw [turn_echo_deadline hseq hlt hrx hb]
    refine ⟨_, rfl, ?_, ?_, ?_, ?_, ?_, rfl, rfl, rfl, sameSums_refl s, sameRest_refl s⟩ <;> simp
  · rw [turn_echo_sleep hseq hlt hrx hb]
    exact ⟨_, rfl, rfl, rfl, rfl, rfl, rfl, rfl, sameSums_refl s, ⟨rfl, rfl⟩, sameHostSide_refl s⟩

/-- Settles O30: the read of a character looks at the overall deadline before it looks at RX. -/
theorem deadlineComesFirst : Obligations.DeadlineComesFirst := by
  intro s high hseq h0 hb
  rw [turn_frameReader hseq, readTurnA_deadline ((deadlinePassed_iff s).2 ⟨h0, hb⟩)]
  exact raise_reports .deadline 0 s

/-- With the overall bound off or not yet reached the deadline has not passed (R45). -/
theorem deadlinePassed_eq_false {s : State}
    (h : s.cfg.overallTimeout = 0 ∨ (s.time.now - s.time.t0Op).toNat < s.cfg.overallTimeout.toNat) :
    deadlinePassed s = false := by
  rw [← Bool.not_eq_true, deadlinePassed_iff]
  rintro ⟨h0, hb⟩
  exact h.elim h0 (Nat.not_lt.2 hb)

/-- Settles O46: in each of these states a turn is one turn of a timed read, which finds no byte. -/
theorem emptyReadPolls : Obligations.EmptyReadPolls := by
  intro s first wide high more hseq hrx
  have hturn : ∃ k, turn s = readTurn k s := by
    rcases hseq with h | h | h | h | h | h | h | h | ⟨h, hd⟩
    on_goal 9 => exact ⟨character, (turn_frameReader h).trans (readTurnA_before (deadlinePassed_eq_false hd))⟩
    all_goals
      simp only [turn, h]
      exact ⟨_, rfl⟩
  obtain ⟨k, hk⟩ := hturn
  rw [hk]
  refine ⟨fun hb => ?_, fun hb => ?_⟩
  · rw [readTurn_timeout hrx hb]
    exact raise_reports .timeout 0 s
  · rw [readTurn_sleep hrx hb]
    exact ⟨_, rfl, rfl⟩

end Sys2Proof.Machine

/-! ## Steps of the sequencer with no move listed, and the accesses of the host -/

namespace Sys2Proof.Machine

/-! ### A due reader and its code -/

/-- With no move listed, a running sequencer that is awake or at its wake time takes its turn (R153, log entry 2). -/
theorem step_of_awake {s : State} (hm : s.moves = []) (hi : s.seq ≠ .idle)
    (hz : s.sleeping = true → s.time.now = s.time.tNext) : step s = turn s := by
  have hr : runnable s = true := by
    cases h : s.sleeping with
    | false => simp [runnable, hi, h]
    | true => simp [runnable, hi, h, hz h]
  rw [step_nil hm, advance, if_pos hr]

theorem character_of_decode {c : Byte} {i : Instr} (h : decodeByte .ascChar c = .ok i) (s : State) :
    character c s = exec i s := by
  simp only [character, h]

theorem functionCode_of_decode {c : Byte} {i : Instr} (h : decodeByte .rtuFc c = .ok i) (s : State) :
    functionCode c s = exec i s := by
  simp only [functionCode, h]

/-- A character of no row is neither a hex character nor one of the envelope's (R91, R92). -/
theorem character_of_noRow {c : Byte} (h : decodeByte .ascChar c = .error (.noRow .ascChar)) :
    isHex c = false ∧ c ≠ charStart ∧ c ≠ charCr ∧ c ≠ charLf := by
  have all : ∀ c : Byte, (match decodeByte .ascChar c with
      | .ok _    => true
      | .error _ => !isHex c && c != charStart && c != charCr && c != charLf) = true := by decide +kernel
  have hc := all c
  rw [h] at hc
  simpa [and_assoc] using hc

/-- The token reader answers a character of no row with `BadHex`, whichever character was due (R158). -/
theorem takeCharacter_noRow_token {c first : Byte} {s : State}
    (h : decodeByte .ascChar c = .error (.noRow .ascChar)) (hq : s.seq = .xTok1 ∨ s.seq = .xTok2 first) :
    takeCharacter c s = badHex c s := by
  obtain ⟨hx, hs, hc, hl⟩ := character_of_noRow h
  rcases hq with hq | hq
  · simp [takeCharacter, hq, tokenFirst, hs, hc, hx]
  · simp [takeCharacter, hq, tokenSecond, hl, hx]

/-- The frame reader answers a character of no row by going back to `SEEK`, whichever character was due (R185). -/
theorem takeCharacter_noRow_frame {c high : Byte} {s : State}
    (h : decodeByte .ascChar c = .error (.noRow .ascChar))
    (hq : s.seq = .aSeek ∨ s.seq = .aHi ∨ s.seq = .aLo high ∨ s.seq = .aLf) : takeCharacter c s = ascSeek s := by
  obtain ⟨hx, hs, hc, hl⟩ := character_of_noRow h
  rcases hq with hq | hq | hq | hq
  · simp [takeCharacter, hq, hs]
  · simp [takeCharacter, hq, ascHigh, hs, hc, hx]
  · simp [takeCharacter, hq, ascLow, hs, hx]
  · simp [takeCharacter, hq, ascEnd, hs, hl]

/-- `BadHex` ends the token operation on the character and writes no result (R158, R274). -/
theorem badHex_tokenEnds (c : Byte) (s : State) :
    Answers (badHex c s) (TokenEnds 8 (c.setWidth 16) s.res.tok s.res.lo s) :=
  ⟨_, rfl, endsWith_ended .., sameSums_refl s, rfl, sameRest_refl s⟩

/-- The step of a due RTU reader that awaits a function code (R210). -/
theorem step_functionCode {s : State} {c : Byte} {rest : List Byte} (hm : s.moves = []) (hrx : s.rx = c :: rest)
    (hz : s.sleeping = true → s.time.now = s.time.tNext) (hq : s.seq = .rFc) :
    step s = functionCode c (popped rest s) := by
  have ht : turn s = readTurn functionCode s := by simp only [turn, hq]
  rw [step_of_awake hm (by simp [hq]) hz, ht, readTurn_cons hrx]

/-- The step of a due token reader (R158). -/
theorem step_tokenReader {s : State} {c first : Byte} {rest : List Byte} (hm : s.moves = []) (hrx : s.rx = c :: rest)
    (hz : s.sleeping = true → s.time.now = s.time.tNext) (hq : s.seq = .xTok1 ∨ s.seq = .xTok2 first) :
    step s = character c (popped rest s) := by
  have hi : s.seq ≠ .idle := by rcases hq with h | h <;> simp [h]
  rw [step_of_awake hm hi hz, turn_tokenReader hq, readTurn_cons hrx]

/-- The step of a due ASCII frame reader before its overall deadline (R186). -/
theorem step_frameReader {s : State} {c high : Byte} {rest : List Byte} (hm : s.moves = []) (hrx : s.rx = c :: rest)
    (hz : s.sleeping = true → s.time.now = s.time.tNext)
    (hq : s.seq = .aSeek ∨ s.seq = .aHi ∨ s.seq = .aLo high ∨ s.seq = .aLf) (hd : deadlinePassed s = false) :
    step s = character c (popped rest s) := by
  have hi : s.seq ≠ .idle := by rcases hq with h | h | h | h <;> simp [h]
  rw [step_of_awake hm hi hz, turn_frameReader hq, readTurnA_before hd, readTurn_cons hrx]

/-- Settles O41: the step is the reader's turn, which runs what the head of RX decodes to. -/
theorem stepRunsReceivedCode : Obligations.StepRunsReceivedCode := by
  intro s c rest hm hrx hz
  refine ⟨fun i hq hd => ?_, fun first hq => ?_, fun high hq hdl => ?_⟩
  · exact (step_functionCode hm hrx hz hq).trans (functionCode_of_decode hd _)
  · rw [step_tokenReader hm hrx hz hq]
    refine ⟨fun i hd => character_of_decode hd _, fun hd => ?_⟩
    rw [character_eq, takeCharacter_noRow_token (s := popped rest s) hd hq]
    exact badHex_tokenEnds c (popped rest s)
  · rw [step_frameReader hm hrx hz hq hdl]
    refine ⟨fun i hd => character_of_decode hd _, fun hd => ?_⟩
    rw [character_eq, takeCharacter_noRow_frame (s := popped rest s) hd hq]
    exact beginRead_empty .aSeek (popped rest s)

/-! ### The reset input, and writes while busy -/

/-- Settles O45: the reset input sets its registers over what it leaves alone. -/
theorem resetInputSetsRegisters : Obligations.ResetInputSetsRegisters := by
  intro s rest hm
  refine ⟨_, step_cons hm, rfl, rfl, rfl, rfl, rfl, rfl, rfl, rfl, rfl, rfl, rfl, rfl, rfl, rfl, rfl, rfl, rfl, rfl,
    fun sp _ => ?_, rfl, rfl, rfl⟩
  cases sp <;> rfl

theorem hostWriteRegister_busy {n : Nat} {s : State} (v : Word) (hn : regAt n ≠ none)
    (hb : statusBusy s.status = true) : hostWriteRegister n v s = hostViolation s := by
  obtain ⟨r, hr⟩ := Option.ne_none_iff_exists'.1 hn
  simp [hostWriteRegister, hr, hb]

/-- A write while busy to a register of the map, `CMD` included, is dropped (R233). -/
theorem hostWrite_busy {n : Nat} {s : State} (v : Word) (hn : regAt n ≠ none) (hb : statusBusy s.status = true) :
    hostWrite n v s = .next (hostViolation s) := by
  simp [hostWrite, hb, hostWriteRegister_busy v hn hb]

theorem hostStore_busy {s : State} (sp : Space) (i : Nat) (b : Byte) (hb : statusBusy s.status = true) :
    hostStore sp i b s = .next (hostViolation s) := by
  simp [hostStore, hb]

/-- Settles O42: either write leaves its violation and nothing else. -/
theorem writesWhileBusyAreDropped : Obligations.WritesWhileBusyAreDropped := by
  intro s m rest hm hb hw
  have hst : step s = .next (hostViolation { s with moves := rest }) := by
    rw [step_cons hm]
    rcases hw with ⟨n, v, rfl, hn⟩ | ⟨i, b, rfl⟩
    · exact hostWrite_busy v hn hb
    · exact hostStore_busy (s := { s with moves := rest }) .obuf i b hb
  exact ⟨_, hst, by simp, by simp, by simp, by simp [hb], by simp, rfl⟩

/-! ### Idle accesses to registers -/

/-- While idle every register reads its true value (R232). -/
theorem readRegister_idle (r : Reg) {s : State} (hb : statusBusy s.status = false) :
    readRegister r s = readTrue r s := by
  unfold readRegister
  split
  · rw [if_neg (by simp [hb])]
  · rfl

/-- A write to a register reaches no move. -/
theorem writeRegister_setMoves (r : Reg) (v : Word) (s : State) (ms : List Move) :
    writeRegister r v { s with moves := ms } = { writeRegister r v s with moves := ms } := by
  cases r <;> rfl

/-- A host read that is the next move (R232). -/
theorem step_read {s : State} {n : Nat} {rest : List Move} (hm : s.moves = .hostRead n :: rest) :
    step s = .next (hostRead n { s with moves := rest }) := step_cons hm

theorem steps_two {s t u : State} (ht : step s = .next t) (hu : step t = .next u) : steps 2 s = .next u := by
  rw [steps_succ 1 ht, steps_succ 0 hu, steps_zero]

/-- While idle a register of the map reads its true value (R232). -/
theorem hostRead_idle {n : Nat} {r : Reg} {s : State} (hn : regAt n = some r) (hb : statusBusy s.status = false) :
    hostRead n s = readTrue r s := by
  simp only [hostRead, hn, readRegister_idle r hb]

section
variable {s : State} {n : Nat} {v : Word} {rest : List Move} {r : Reg}
  (hm : s.moves = .hostWrite n v :: .hostRead n :: rest)
include hm

/-- An idle write of a register of the map other than `CMD`, as the next move (R40). -/
theorem step_write (hb : statusBusy s.status = false) (hn : regAt n = some r) (hr : r ≠ .cmd) :
    step s = .next (writeRegister r v { s with moves := .hostRead n :: rest }) := by
  have hc : n ≠ cmdNumber := by
    rintro rfl
    exact hr (Option.some.inj hn).symm
  rw [step_cons hm]
  simp [moveStep, hostWrite, hostWriteRegister, hc, hn, hb]

/-- An idle write and then read of a register of the map other than `CMD` (R40, R232). -/
theorem steps_write_read (hb : statusBusy s.status = false) (hn : regAt n = some r) (hr : r ≠ .cmd) :
    steps 2 s = .next (readTrue r (writeRegister r v { s with moves := rest })) := by
  have hw := step_write hm hb hn hr
  have hb' : statusBusy (writeRegister r v { s with moves := rest }).status = false :=
    (worked_writeRegister r v { s with moves := rest }).busy.trans hb
  rw [writeRegister_setMoves] at hw hb' ⊢
  rw [steps_two hw (step_read rfl), hostRead_idle hn hb']

/-- A write and then read of a number outside the map (R40). -/
theorem steps_write_read_outside (hn : regAt n = none) :
    steps 2 s = .next { s with readData := 0, moves := rest } := by
  have hc : n ≠ cmdNumber := by
    rintro rfl
    cases hn
  have hw : step s = .next { s with moves := .hostRead n :: rest } := by
    rw [step_cons hm]
    simp [moveStep, hostWrite, hostWriteRegister, hc, hn]
  rw [steps_two hw (step_read rfl)]
  simp [hostRead, hn]

end

/-- A value truncated to a register's width and extended to the port's. -/
theorem toNat_truncated {w : Nat} (hw : w ≤ 32) (v : Word) : ((v.setWidth w).setWidth 32).toNat = v.toNat % 2 ^ w := by
  rw [BitVec.toNat_setWidth, BitVec.toNat_setWidth]
  exact Nat.mod_eq_of_lt ((Nat.mod_lt _ (by positivity)).trans_le (Nat.pow_le_pow_right (by decide) hw))

/-- `CFG_CTRL` keeps the two lowest bits (R42, R123). -/
theorem toNat_ctrlStored (v : Word) : ((ctrlStored (v.setWidth 8)).setWidth 32).toNat = v.toNat % 2 ^ 2 := by
  have hand : v.toNat % 2 ^ 8 &&& 3 = v.toNat % 2 ^ 8 % 2 ^ 2 := Nat.and_two_pow_sub_one_eq_mod _ 2
  have hstored : (ctrlStored (v.setWidth 8)).toNat = v.toNat % 2 ^ 8 % 2 ^ 2 := by
    rw [ctrlStored, BitVec.toNat_and, BitVec.toNat_setWidth]
    exact hand
  rw [BitVec.toNat_setWidth, hstored]
  omega

/-- Each configuration and operand register reads as the value written, modulo 2 to its width (R40, R42). -/
theorem writable_readsBack {n w : Nat}
    (h : (n, w) ∈ [(0x00, 8), (0x01, 2), (0x02, 16), (0x03, 16), (0x04, 16), (0x10, 8), (0x11, 8), (0x12, 17),
      (0x13, 17), (0x14, 8), (0x15, 8), (0x16, 1)]) :
    ∃ r, regAt n = some r ∧ r ≠ .cmd ∧
      ∀ (v : Word) (s : State), (regValue r (writeRegister r v s)).toNat = v.toNat % 2 ^ w := by
  simp only [List.mem_cons, Prod.mk.injEq, List.not_mem_nil, or_false] at h
  rcases h with h | h | h | h | h | h | h | h | h | h | h | h <;> obtain ⟨rfl, rfl⟩ := h
  on_goal 2 => exact ⟨.cfgCtrl, rfl, by decide, fun v _ => toNat_ctrlStored v⟩
  all_goals exact ⟨_, rfl, by decide, fun v _ => toNat_truncated (by decide) v⟩

/-- Each read-only register ignores a write and reads the value it holds (R40). -/
theorem readOnly_ignoresWrite {n : Nat} {w : Word} {s : State}
    (h : (n, w) ∈ [(0x20, s.res.uid.setWidth 32), (0x21, s.res.fc.setWidth 32), (0x22, s.res.len.setWidth 32),
      (0x23, s.res.lo.setWidth 32), (0x24, s.res.hi.setWidth 32), (0x25, s.res.cnt), (0x26, s.res.tok.setWidth 32),
      (0x27, s.res.echoCnt), (0x28, s.olen.setWidth 32), (0x29, s.ilen.setWidth 32), (0x31, s.errInfo.setWidth 32),
      (0x40, s.crcLo.setWidth 32), (0x41, s.crcHi.setWidth 32), (0x42, s.lrcAcc.setWidth 32), (0x50, s.time.now)]) :
    ∃ r, regAt n = some r ∧ r ≠ .cmd ∧ (∀ v t, writeRegister r v t = t) ∧
      ∀ ms, readTrue r { s with moves := ms } = { s with readData := w, moves := ms } := by
  simp only [List.mem_cons, Prod.mk.injEq, List.not_mem_nil, or_false] at h
  rcases h with h | h | h | h | h | h | h | h | h | h | h | h | h | h | h <;> obtain ⟨rfl, rfl⟩ := h <;>
    exact ⟨_, rfl, by decide, fun _ _ => rfl, fun _ => rfl⟩

/-- Settles O44: register accesses by the class of the number, buffer accesses by the host's rules for a buffer. -/
theorem registerWriteThenRead : Obligations.RegisterWriteThenRead := by
  refine ⟨fun s n v rest hm hb => ⟨fun w hw => ?_, fun hn => ?_, fun w hw => ?_⟩, ?_, ?_, ?_⟩
  · obtain ⟨r, hn, hr, hv⟩ := writable_readsBack hw
    refine ⟨_, steps_write_read hm hb hn hr, hv v _, ?_⟩
    cases r <;> rfl
  · exact ⟨_, steps_write_read_outside hm hn, rfl⟩
  · obtain ⟨r, hn, hr, hi, hv⟩ := readOnly_ignoresWrite hw
    have h1 := step_write hm hb hn hr
    have h2 := steps_write_read hm hb hn hr
    rw [hi] at h1 h2
    exact ⟨⟨_, h1, rfl⟩, ⟨_, h2, hv rest⟩⟩
  · intro s i b rest hm hb hi
    refine ⟨_, (step_cons hm).trans (hostStore_obuf (s := { s with moves := rest }) b hb hi), rfl, fun j => ?_⟩
    simp [byteAt_store, byteAt_congr .obuf j s { s with moves := rest } rfl rfl]
  · intro s i b rest hm hb hi
    exact ⟨_, (step_cons hm).trans (hostStore_ibuf (s := { s with moves := rest }) b hb hi), rfl⟩
  · intro s sp i b rest hm hb hi hbyte
    have hbyte' : byteAt sp i { s with moves := rest } = some b := (byteAt_congr sp i s _ rfl rfl).trans hbyte
    exact ⟨_, (step_cons hm).trans (hostLoad_written (s := { s with moves := rest }) hb hi hbyte'), rfl⟩

end Sys2Proof.Machine

/-! ## What the sequencer does with the queues, and that no step stops

`InOrder` says what an operation may do to the queues and to what is the host's; `Leads` says it of a result, and under
which hypothesis that result is no stop. -/

namespace Sys2Proof.Machine

/-! ### The queues in order -/

/-- From `s` to `u` at most the head of RX has been taken, bytes have only been appended to TX, and nothing that is the
host's has been written (R64, R65, R79). -/
structure InOrder (s u : State) : Prop where
  rx   : u.rx = s.rx ∨ ∃ b, s.rx = b :: u.rx
  tx   : ∃ bs, u.tx = s.tx ++ bs
  host : SameHostSide s u

namespace InOrder

theorem refl (s : State) : InOrder s s := ⟨.inl rfl, ⟨[], by simp⟩, sameHostSide_refl s⟩

theorem popped {s : State} {b : Byte} {rest : List Byte} (h : s.rx = b :: rest) : InOrder s (popped rest s) :=
  { refl s with rx := .inr ⟨b, h⟩ }

variable {s u : State}

theorem fetch (ho : InOrder s u) (sp : Space) (i : Nat) : InOrder s (fetch sp i u).2 := by
  rw [fetch_state]
  exact { ho with }

theorem fetchBytes (ho : InOrder s u) (sp : Space) (i n : Nat) : InOrder s (fetchBytes sp i n u).2 := by
  rw [fetchBytes_state]
  exact { ho with }

theorem readUnitId (ho : InOrder s u) : InOrder s (readUnitId u).2 := by
  rw [readUnitId_state]
  exact { ho with }

/-- A push appends its bytes to TX (R65). -/
theorem txPush (ho : InOrder s u) (bs : List Byte) : InOrder s (txPush bs u) := by
  obtain ⟨as, ha⟩ := ho.tx
  exact { ho with tx := ⟨as ++ bs, by rw [txPush_tx, ha, List.append_assoc]⟩ }

theorem store (ho : InOrder s u) (sp : Space) (i : Nat) (b : Byte) : InOrder s (store sp i b u) := by
  cases sp <;> exact { ho with }

theorem placeHeader (ho : InOrder s u) : InOrder s (placeHeader u) := (ho.store .obuf 0 _).store .obuf 1 _

theorem ascAttach (ho : InOrder s u) (covered : List Byte) : InOrder s (ascAttach covered u) :=
  { ho.store .obuf (u.op.len.toNat + 2) (lrcOf (sumBytes covered)) with }

theorem ascBuild (ho : InOrder s u) : InOrder s (ascBuild u) := (ho.placeHeader.fetchBytes ..).ascAttach _

theorem rtuAttach (ho : InOrder s u) (covered : List Byte) : InOrder s (rtuAttach covered u) := by
  have hc : InOrder s (setCrc (crcBytes covered) u) := { ho with }
  exact { (hc.store .obuf (u.op.len.toNat + 2) (crcBytes covered).1).store .obuf (u.op.len.toNat + 3)
    (crcBytes covered).2 with }

theorem rtuBuild (ho : InOrder s u) : InOrder s (rtuBuild u) := (ho.placeHeader.fetchBytes ..).rtuAttach _

end InOrder

/-- If a result is a next state, it has come from `s` with the queues in order, and under `H` it is one. -/
def Leads (H : Prop) (s : State) : Result → Prop
  | .next t               => InOrder s t
  | .fault _ | .refused _ => ¬ H

theorem Leads.inOrder {H : Prop} {s t : State} {r : Result} (hl : Leads H s r) (h : r = .next t) : InOrder s t := by
  rw [h] at hl
  exact hl

theorem Leads.next {H : Prop} {s : State} {r : Result} (hl : Leads H s r) (h : H) : ∃ t, r = .next t := by
  cases r with
  | next t => exact ⟨t, rfl⟩
  | fault | refused => exact absurd h hl

section
variable {H : Prop} {s u : State}

theorem leads_next (ho : InOrder s u) : Leads H s (.next u) := ho

theorem leads_ite {c : Prop} [Decidable c] {a b : Result} (ha : c → Leads H s a) (hb : ¬ c → Leads H s b) :
    Leads H s (if c then a else b) := by
  split
  · exact ha ‹_›
  · exact hb ‹_›

theorem leads_complete (ho : InOrder s u) : Leads H s (complete u) := leads_next { ho with }

theorem leads_raise (ho : InOrder s u) (e : Err) (info : Half) : Leads H s (raise e info u) := leads_next { ho with }

theorem leads_beginRead (ho : InOrder s u) (q : Seq) : Leads H s (.next (beginRead q u)) := leads_next { ho with }

theorem leads_beginPhase (ho : InOrder s u) (q : Seq) : Leads H s (.next (beginPhase q u)) := leads_next { ho with }

/-! ### The adapter's operations -/

theorem leads_badHex (ho : InOrder s u) (c : Byte) : Leads H s (badHex c u) := leads_raise ho ..

theorem leads_tokenDone (ho : InOrder s u) (kind : BitVec 2) (b : Byte) : Leads H s (tokenDone kind b u) :=
  leads_complete { ho with }

theorem leads_tokenFirst (ho : InOrder s u) (c : Byte) : Leads H s (tokenFirst c u) :=
  leads_ite (fun _ => leads_tokenDone ho 1 0) fun _ => leads_ite (fun _ => leads_beginRead ho _) fun _ =>
    leads_ite (fun _ => leads_beginRead ho _) fun _ => leads_badHex ho c

theorem leads_tokenSecond (ho : InOrder s u) (first c : Byte) : Leads H s (tokenSecond first c u) :=
  leads_ite (fun _ => leads_ite (fun _ => leads_tokenDone ho 2 0) fun _ => leads_badHex ho c) fun _ =>
    leads_ite (fun _ => leads_tokenDone ho 0 _) fun _ => leads_badHex ho c

theorem leads_pushDone (ho : InOrder s u) (bs : List Byte) : Leads H s (pushDone bs u) :=
  leads_complete { ho.txPush bs with }

theorem leads_execLrcRange (ho : InOrder s u) : Leads H s (execLrcRange u) :=
  leads_ite (fun _ => leads_complete { ho.fetchBytes _ _ _ with }) fun _ => leads_raise ho ..

theorem leads_execCrcRange (ho : InOrder s u) : Leads H s (execCrcRange u) :=
  leads_ite (fun _ => leads_complete { ho.fetchBytes _ _ _ with }) fun _ => leads_raise ho ..

theorem leads_execTxWrite (ho : InOrder s u) : Leads H s (execTxWrite u) :=
  leads_ite (fun _ => leads_pushDone (ho.fetchBytes ..) _) fun _ => leads_raise ho ..

theorem leads_execAscTxWrite (ho : InOrder s u) : Leads H s (execAscTxWrite u) :=
  leads_ite (fun _ => leads_pushDone (ho.fetchBytes ..) _) fun _ => leads_raise ho ..

theorem leads_execHexDec (ho : InOrder s u) : Leads H s (execHexDec u) :=
  leads_ite (fun _ => leads_ite (fun _ => leads_complete { ho with }) fun _ => leads_badHex ho _) fun _ =>
    leads_badHex ho _

/-! ### The ASCII frame codec -/

theorem leads_ascPush (ho : InOrder s u) (bs : List Byte) : Leads H s (ascPush bs u) :=
  have hp := ho.txPush (charStart :: hexPairs bs ++ [charCr, charLf])
  leads_ite (fun _ => leads_next { hp with }) fun _ => leads_complete { hp with }

theorem leads_execAscWriteFrame (ho : InOrder s u) : Leads H s (execAscWriteFrame u) :=
  leads_ite (fun _ => leads_ascPush (ho.ascBuild.fetchBytes ..) _) fun _ => leads_raise ho ..

theorem leads_ascSeek (ho : InOrder s u) : Leads H s (ascSeek u) := leads_next { ho with }

theorem leads_ascAccum (ho : InOrder s u) : Leads H s (ascAccum u) := leads_next { ho with }

section
variable (ho : InOrder s u) (hl : H → u.ilen.toNat ≤ u.params.bufSize)
include ho

theorem leads_ascFilter : Leads H s (ascFilter u) :=
  have hr := (ho.fetch .ibuf 0).readUnitId.fetch .ibuf 1
  leads_ite (fun _ => leads_complete { hr with }) fun _ => leads_ascSeek hr

theorem leads_ascHigh (c : Byte) : Leads H s (ascHigh c u) :=
  leads_ite (fun _ => leads_ascAccum ho) fun _ => leads_ite (fun _ => leads_beginRead ho _) fun _ =>
    leads_ite (fun _ => leads_beginRead ho _) fun _ => leads_ascSeek ho

include hl

/-- The reader stops at a byte only if `ILEN` lies beyond IBUF (R62). -/
theorem leads_ascByte (b : Byte) : Leads H s (ascByte b u) :=
  leads_ite (fun _ => leads_ascSeek ho) fun hne => leads_ite (fun _ => leads_next { ho with }) fun hnl h =>
    hnl (Nat.lt_of_le_of_ne (hl h) hne)

/-- The reader stops at the end token only if `ILEN` lies beyond IBUF (R62). -/
theorem leads_ascCheck : Leads H s (ascCheck u) :=
  have hr : InOrder s (ascSum u) := { ho.fetchBytes _ _ _ with }
  leads_ite (fun _ => leads_ascSeek ho) fun _ => leads_ite (fun hlt h => absurd (hl h) (Nat.not_le.2 hlt)) fun _ =>
    leads_ite (fun _ => leads_ascFilter (hr.fetch ..)) fun _ => leads_ascSeek (hr.fetch ..)

theorem leads_ascLow (high c : Byte) : Leads H s (ascLow high c u) :=
  leads_ite (fun _ => leads_ascAccum ho) fun _ =>
    leads_ite (fun _ => leads_ascByte ho hl _) fun _ => leads_ascSeek ho

theorem leads_ascEnd (c : Byte) : Leads H s (ascEnd c u) :=
  leads_ite (fun _ => leads_ascAccum ho) fun _ =>
    leads_ite (fun _ => leads_ascCheck ho hl) fun _ => leads_ascSeek ho

end

/-- An ASCII reader waits for a character (R158, R185). -/
def Seq.awaitsCharacter : Seq → Bool
  | .xTok1 | .xTok2 _ | .aSeek | .aHi | .aLo _ | .aLf => true
  | _                                                 => false

/-- A character is taken by a reader that waits for one (R92, R158, R185). -/
theorem leads_takeCharacter (ho : InOrder s u) (hq : u.seq.awaitsCharacter = true)
    (hl : H → u.ilen.toNat ≤ u.params.bufSize) (c : Byte) : Leads H s (takeCharacter c u) := by
  unfold takeCharacter
  split
  · exact leads_tokenFirst ho c
  · exact leads_tokenSecond ho _ c
  · split
    · exact leads_ascAccum ho
    · exact leads_ascSeek ho
  · exact leads_ascHigh ho c
  · exact leads_ascLow ho hl _ c
  · exact leads_ascEnd ho hl c
  all_goals simp [Seq.awaitsCharacter, *] at hq

/-! ### The RTU frame codec -/

theorem leads_rtuTransmit (ho : InOrder s u) : Leads H s (rtuTransmit u) :=
  have hp := (ho.fetchBytes .obuf 0 (u.op.len.toNat + 4)).txPush (fetchBytes .obuf 0 (u.op.len.toNat + 4) u).1
  leads_ite (fun _ => leads_beginPhase hp _) fun _ => leads_complete hp

theorem leads_execRtuWriteFrame (ho : InOrder s u) : Leads H s (execRtuWriteFrame u) :=
  leads_ite (fun _ => leads_ite (fun _ => leads_beginPhase ho.rtuBuild _) fun _ => leads_rtuTransmit ho.rtuBuild)
    fun _ => leads_raise ho ..

theorem leads_rtuStart (ho : InOrder s u) : Leads H s (rtuStart u) := leads_next { ho with }

theorem leads_rtuLength (ho : InOrder s u) (rem : Nat) : Leads H s (rtuLength rem u) :=
  leads_ite (fun _ => leads_beginRead ho _) fun _ => leads_raise ho ..

theorem leads_rtuClass (ho : InOrder s u) (f : Byte) : Leads H s (rtuClass f u) := by
  unfold rtuClass
  cases lenClass f u with
  | unknown => exact leads_raise ho ..
  | count8 | count16 => exact leads_beginRead ho _
  | fixed6 | fixed3 | fixed8 => exact leads_rtuLength ho _

theorem leads_rtuDeliver (ho : InOrder s u) (uid fc unitId : Byte) (d : Nat) :
    Leads H s (rtuDeliver uid fc unitId d u) :=
  leads_ite (fun _ => leads_complete { ho with }) fun _ => leads_rtuStart ho

theorem leads_rtuVerify (ho : InOrder s u) (low high : Byte) (d : Nat) : Leads H s (rtuVerify low high d u) :=
  leads_ite (fun _ => leads_rtuDeliver ((ho.fetch .ibuf 0).readUnitId.fetch .ibuf 1) ..) fun _ => leads_raise ho ..

theorem leads_rtuCheck (ho : InOrder s u) : Leads H s (rtuCheck u) :=
  have hs : InOrder s (rtuSum (u.ilen.toNat - 2) u) := { ho.fetchBytes .ibuf 0 _ with }
  leads_rtuVerify ((hs.fetch ..).fetch ..) ..

section
variable (ho : InOrder s u) (hl : H → u.ilen.toNat < u.params.bufSize)
include ho hl

/-- The reader stops at a byte only if IBUF has no room for it (R62). -/
theorem leads_append (b : Byte) {k : State → Result} (hk : ∀ v, InOrder s v → Leads H s (k v)) :
    Leads H s (append b k u) :=
  leads_ite (fun _ => hk _ { ho with }) fun hn h => hn (hl h)

theorem leads_rtuUnitId (b : Byte) : Leads H s (rtuUnitId b u) :=
  leads_append ho hl b fun _ hv => leads_beginRead hv _

theorem leads_takeFunctionCode (hq : u.seq = .rFc) (f : Byte) : Leads H s (takeFunctionCode f u) :=
  leads_ite (fun _ => leads_append ho hl f fun _ hv => leads_rtuClass hv f) fun hn => absurd hq hn

theorem leads_rtuCount (wide : Bool) (c : Byte) : Leads H s (rtuCount wide c u) :=
  leads_append ho hl c fun _ hv => leads_ite (fun _ => leads_beginRead hv _) fun _ => leads_rtuLength hv _

theorem leads_rtuCountLow (high low : Byte) : Leads H s (rtuCountLow high low u) :=
  leads_append ho hl low fun _ hv => leads_rtuLength hv _

theorem leads_rtuBodyByte (more : Nat) (b : Byte) : Leads H s (rtuBodyByte more b u) :=
  leads_append ho hl b fun _ hv => by
    cases more with
    | zero => exact leads_rtuCheck hv
    | succ n => exact leads_beginRead hv _

end

end

/-! ### The sequencer's turn -/

section
variable {H : Prop} {s : State}

theorem leads_sleep : Leads H s (.next (sleep s)) := leads_next { InOrder.refl s with }

theorem leads_readTurn {k : Byte → State → Result}
    (hk : ∀ b rest, InOrder s (popped rest s) → Leads H s (k b (popped rest s))) : Leads H s (readTurn k s) := by
  unfold readTurn
  split
  · exact hk _ _ (.popped ‹_›)
  · exact leads_ite (fun _ => leads_raise (.refl s) ..) fun _ => leads_sleep

theorem leads_readTurn_character (hq : s.seq.awaitsCharacter = true) (hl : H → s.ilen.toNat ≤ s.params.bufSize) :
    Leads H s (readTurn character s) :=
  leads_readTurn fun b _ ho => by
    rw [character_eq]
    exact leads_takeCharacter ho hq hl b

theorem leads_readTurnA (hq : s.seq.awaitsCharacter = true) (hl : H → s.ilen.toNat ≤ s.params.bufSize) :
    Leads H s (readTurnA character s) :=
  leads_ite (fun _ => leads_raise (.refl s) ..) fun _ => leads_readTurn_character hq hl

theorem leads_flushTurn {wait : Nat → Seq} {k : Nat → State → Result} {n : Nat} (hk : Leads H s (k n s)) :
    Leads H s (flushTurn wait k n s) := by
  refine leads_ite (fun _ => hk) fun hf => ?_
  rw [flushStops_iff] at hf
  cases hr : s.rx with
  | nil => exact absurd (.inl hr) hf
  | cons b rest => exact leads_next { InOrder.popped hr with }

theorem leads_echoFinish (got want : Nat) : Leads H s (echoFinish got want s) :=
  leads_ite (fun _ => leads_complete { InOrder.refl s with }) fun _ => leads_complete { InOrder.refl s with }

theorem leads_echoTurn (wait : Nat → Nat → Seq) (got want : Nat) : Leads H s (echoTurn wait got want s) := by
  refine leads_ite (fun _ => leads_echoFinish got want) fun _ => ?_
  split
  · exact leads_next { InOrder.popped ‹_› with }
  · exact leads_ite (fun _ => leads_echoFinish got want) fun _ => leads_sleep

/-- The RTU reader waits for a byte (R210). -/
def Seq.awaitsFrameByte : Seq → Bool
  | .rUid | .rFc | .rCnt _ | .rCnt2 _ | .rBody _ => true
  | _                                            => false

theorem bufSize_ge {p : Params} (hp : paramsOk p = true) : 10 ≤ p.bufSize := by
  simp only [paramsOk, Bool.and_eq_true, decide_eq_true_eq] at hp
  exact hp.1.1.1

/-- IBUF has room for the byte the RTU reader waits for (R62, R210). -/
theorem ilen_lt_bufSize (hf : FrameOk s) (hq : s.seq.awaitsFrameByte = true) : s.ilen.toNat < s.params.bufSize := by
  obtain ⟨hp, -, -, hs⟩ := hf
  have hsize := bufSize_ge hp
  cases h : s.seq with
  | rUid | rFc | rCnt | rCnt2 =>
    simp only [sequencerOk, h, decide_eq_true_eq] at hs
    rw [hs]
    exact lt_of_lt_of_le (by decide) hsize
  | rBody more =>
    have := (sequencerOk_rBody h).1 hs
    omega
  | _ => simp [Seq.awaitsFrameByte, h] at hq

/-- A turn keeps the queues in order, and stops in no state whose frame lengths and held values are in range. -/
theorem leads_turn (s : State) : Leads (FrameOk s) s (turn s) := by
  have hle : FrameOk s → s.ilen.toNat ≤ s.params.bufSize := fun hf => hf.2.2.1
  have room {q : Seq} (h : s.seq = q) (hq : q.awaitsFrameByte = true) : FrameOk s → s.ilen.toNat < s.params.bufSize :=
    fun hf => ilen_lt_bufSize hf (h ▸ hq)
  unfold turn
  cases h : s.seq with
  | idle => exact leads_next (.refl s)
  | exec => exact fun ⟨_, _, _, hq⟩ => by simp [sequencerOk, h] at hq
  | xRead => exact leads_readTurn fun _ _ ho => leads_complete { ho with }
  | xTok1 | xTok2 => exact leads_readTurn_character (by rw [h]; rfl) hle
  | aSeek | aHi | aLo | aLf => exact leads_readTurnA (by rw [h]; rfl) hle
  | rUid => exact leads_readTurn fun b _ ho => leads_rtuUnitId ho (room h rfl) b
  | rFc =>
    refine leads_readTurn fun b _ ho => ?_
    rw [functionCode_eq]
    exact leads_takeFunctionCode ho (room h rfl) h b
  | rCnt wide => exact leads_readTurn fun b _ ho => leads_rtuCount ho (room h rfl) wide b
  | rCnt2 high => exact leads_readTurn fun b _ ho => leads_rtuCountLow ho (room h rfl) high b
  | rBody more => exact leads_readTurn fun b _ ho => leads_rtuBodyByte ho (room h rfl) more b
  | xFlush n => exact leads_flushTurn (leads_complete { InOrder.refl s with })
  | wFlush n => exact leads_flushTurn (leads_rtuTransmit { InOrder.refl s with })
  | xEcho got want | wEcho got want => exact leads_echoTurn ..

end

/-- Settles O49: a turn that answers a next state has kept the queues in order. -/
theorem turnsKeepQueuesInOrder : Obligations.TurnsKeepQueuesInOrder := fun s _ h =>
  have ho := (leads_turn s).inOrder h
  ⟨ho.rx, ho.tx, ho.host⟩

/-! ### Commands -/

/-- Every row of a format gives instructions of that format (R120). -/
theorem format_of_row (f : Format) : ∀ r ∈ rowsOf f, ∀ b, (r.make b).key.format = f := by
  cases f <;> simp only [rowsOf, commandRows, functionCodeRows, characterRows, List.cons_append, List.nil_append,
    List.forall_mem_cons, Instr.key, List.not_mem_nil, false_imp_iff, implies_true, and_self]

theorem format_of_decode {f : Format} {b : Byte} {i : Instr} (h : decodeByte f b = .ok i) : i.key.format = f := by
  obtain ⟨r, hr, -, rfl⟩ := decodeByte_ok h
  exact format_of_row f r hr b

/-- No command stops (R120, R122). -/
theorem leads_exec {s u : State} (ho : InOrder s u) : ∀ i, i.key.format = .cmd8 → Leads True s (exec i u)
  | .nop, _ => leads_complete ho
  | .lrcInit, _ | .lrcUpdate, _ | .lrcRead, _ | .crcInit, _ | .crcUpdate, _ | .crcRead, _ | .rxAvail, _ | .hexEnc, _ =>
    leads_complete { ho with }
  | .lrcRange, _ => leads_execLrcRange ho
  | .crcRange, _ => leads_execCrcRange ho
  | .rxRead, _ | .ascRxToken, _ => leads_beginRead ho _
  | .txWrite, _ => leads_execTxWrite ho
  | .ascTxWrite, _ => leads_execAscTxWrite ho
  | .rxFlush, _ | .echoDiscard, _ => leads_beginPhase ho _
  | .hexDec, _ => leads_execHexDec ho
  | .ascWriteFrame, _ => leads_execAscWriteFrame ho
  | .ascReadFrame, _ => leads_ascSeek ho
  | .rtuWriteFrame, _ => leads_execRtuWriteFrame ho
  | .rtuReadFrame, _ => leads_rtuStart ho
  | .illegal09, _ | .illegal0A0B _, _ | .illegal0C0F _, _ | .illegal19, _ | .illegal1A1B _, _ | .illegal1C1F _, _
  | .illegal2427 _, _ | .illegal282F _, _ | .illegal303F _, _ | .illegal407F _, _ | .illegal80FF _, _ =>
    leads_raise ho .badCommand _

/-- The issue of a command answers a next state (R231). -/
theorem issue_next (v : Byte) (s : State) : ∃ t, issue v s = .next t := by
  unfold issue
  split
  · exact (leads_exec (.refl _) _ (format_of_decode ‹_›)).next trivial
  · exact ⟨_, rfl⟩

/-! ### One step of the system -/

theorem next_ite {c : Prop} [Decidable c] {a b : Result} (ha : ∃ t, a = .next t) (hb : ∃ t, b = .next t) :
    ∃ t, (if c then a else b) = .next t := by
  split
  · exact ha
  · exact hb

theorem turn_next {s : State} (hf : FrameOk s) : ∃ t, turn s = .next t := (leads_turn s).next hf

theorem advance_next {s : State} (hf : FrameOk s) : ∃ t, advance s = .next t := next_ite (turn_next hf) ⟨_, rfl⟩

theorem hostWrite_next (n : Nat) (v : Word) (s : State) : ∃ t, hostWrite n v s = .next t :=
  next_ite (issue_next _ s) ⟨_, rfl⟩

/-- A store is dropped while busy, and stops only outside the buffer while idle (R62, R233). -/
theorem hostStore_next {sp : Space} {i : Nat} {s : State} (b : Byte)
    (h : statusBusy s.status = true ∨ i < s.params.bufSize) : ∃ t, hostStore sp i b s = .next t := by
  cases hb : statusBusy s.status with
  | true => exact ⟨_, hostStore_busy sp i b hb⟩
  | false =>
    have hi : i < s.params.bufSize := by simpa [hb] using h
    cases sp with
    | obuf => exact ⟨_, hostStore_obuf b hb hi⟩
    | ibuf => exact ⟨_, hostStore_ibuf b hb hi⟩

/-- A load stops only outside the buffer (R62). -/
theorem hostLoad_next {sp : Space} {i : Nat} {s : State} (h : i < s.params.bufSize) :
    ∃ t, hostLoad sp i s = .next t := by
  rw [hostLoad, if_pos h]
  exact next_ite ⟨_, rfl⟩ ⟨_, rfl⟩

/-- Settles O60: a turn stops in no state with the invariant, a command never, and a buffer access only outside. -/
theorem noStepStops : Obligations.NoStepStops := by
  rintro s ⟨-, -, -, -, hf⟩ hacc
  cases hm : s.moves with
  | nil => exact step_nil hm ▸ advance_next hf
  | cons m rest =>
    rw [step_cons hm]
    have hf' : FrameOk { s with moves := rest } := hf
    cases m with
    | turn => exact next_ite (turn_next hf') ⟨_, rfl⟩
    | tick => exact next_ite (turn_next hf) ⟨_, rfl⟩
    | hostWait => exact next_ite ⟨_, rfl⟩ (advance_next hf)
    | hostWrite n v => exact hostWrite_next n v _
    | hostStore sp i b =>
      refine hostStore_next b ?_
      simpa [accessOutside, hm, Classical.or_iff_not_imp_left] using hacc
    | hostLoad sp i =>
      refine hostLoad_next ?_
      simpa [accessOutside, hm] using hacc
    | lineRx | lineTx | lineEcho | hostRead | reset => exact ⟨_, rfl⟩

end Sys2Proof.Machine

/-! ## The buffers and the queues: the canonical form, the line, and the bytes of a frame -/

namespace Sys2Proof.Machine

/-! ### The canonical form of the buffers, and the line -/

theorem Kept.buffersOk {s u : State} (hk : Kept s u) (h : BuffersOk s) : BuffersOk u := by
  rw [BuffersOk, hk.params]
  exact ⟨hk.obuf h.1, hk.ibuf h.2⟩

/-- Settles O57: by the cases of a step, each of which stores only inside a buffer. -/
theorem buffersStayCanonical : Obligations.BuffersStayCanonical := fun _ _ h hst => by
  obtain ⟨_, hc⟩ := step_cases hst
  exact hc.kept.buffersOk h

/-- The echo of the head of TX keeps the bytes of RX and TX in their order (R67). -/
theorem lineEcho_rx_append_tx (s : State) : (lineEcho s).rx ++ (lineEcho s).tx = s.rx ++ s.tx := by
  cases h : s.tx <;> simp [lineEcho, h]

/-- Settles O51: each move of the line is one update of the queues. -/
theorem lineTouchesOnlyQueues : Obligations.LineTouchesOnlyQueues := by
  rintro s m rest b hm (rfl | rfl | rfl) <;> rw [step_cons hm]
  · exact ⟨_, rfl, rfl, fun _ => ⟨rfl, rfl⟩, nofun, nofun⟩
  · exact ⟨_, rfl, rfl, nofun, fun _ => ⟨rfl, rfl⟩, nofun⟩
  · exact ⟨_, rfl, rfl, nofun, nofun, fun _ => ⟨lineEcho_rx_append_tx { s with moves := rest }, rfl⟩⟩

/-! ### A byte of an RTU frame -/

/-- The state after a reader has taken `c` off RX, of which `rest` remains, and has appended it at `IBUF:ILEN`. -/
def received (c : Byte) (rest : List Byte) (s : State) : State :=
  { store .ibuf s.ilen.toNat c (popped rest s) with ilen := s.ilen + 1 }

section
variable {s : State} {c : Byte} {rest : List Byte}

/-- While IBUF has room, a turn of a read that appends its byte goes on from the state with the byte appended (R154,
R210). -/
theorem readTurn_append {k : Byte → State → Result} (hrx : s.rx = c :: rest)
    (hi : s.ilen.toNat < s.params.bufSize) :
    readTurn (fun b => append b (k b)) s = k c (received c rest s) := by
  rw [readTurn_cons hrx]
  exact append_room hi

/-- The byte taken is appended, whatever the reader does next (R210). -/
theorem appends_received {t : State} (hl : t.ilen = s.ilen + 1) (ho : t.obuf = s.obuf)
    (hb : t.ibuf = (received c rest s).ibuf) : Appends c s t := by
  refine ⟨hl, fun i => by simp [byteAt, ho], fun j => ?_⟩
  have hs := byteAt_store .ibuf .ibuf s.ilen.toNat j c (popped rest s)
  simpa [byteAt, received, hb] using hs

theorem readsOn_received (q : Seq) : ReadsOn q s (beginRead q (received c rest s)) :=
  ⟨⟨rfl, rfl, rfl, rfl⟩, ⟨rfl, rfl, rfl, rfl, rfl⟩, ⟨rfl, rfl, rfl⟩, rfl, rfl, rfl, rfl, rfl⟩

theorem readFails_received (err : BitVec 4) (info : Half) : ReadFails err info s (ended err info (received c rest s)) :=
  ⟨endsWith_ended err info (received c rest s), ⟨rfl, rfl, rfl, rfl, rfl⟩, ⟨rfl, rfl, rfl⟩, rfl, rfl, rfl, rfl,
    rfl⟩

/-- In a buffer of fewer than 2^17 bytes `ILEN` counts the byte received without wrapping (R25). -/
theorem toNat_ilen_received (hi : s.ilen.toNat < s.params.bufSize) (hs : s.params.bufSize < 2 ^ 17) :
    (received c rest s).ilen.toNat = s.ilen.toNat + 1 := by
  change (s.ilen + 1).toNat = _
  bv_omega

/-- With the byte received, the length of the frame is known (R210, R220). -/
theorem rtuLength_received (hi : s.ilen.toNat < s.params.bufSize) (hs : s.params.bufSize < 2 ^ 17) (rem : Nat) :
    Answers (rtuLength rem (received c rest s)) fun t =>
      Appends c s t ∧ t.rx = rest ∧ t.tx = s.tx ∧ LengthKnown (s.ilen.toNat + 1) rem s t := by
  have hp : (received c rest s).params = s.params := rfl
  unfold rtuLength LengthKnown
  rw [toNat_ilen_received hi hs, hp]
  split
  · exact ⟨_, rfl, appends_received rfl rfl rfl, rfl, rfl, readsOn_received _⟩
  · exact ⟨_, rfl, appends_received rfl rfl rfl, rfl, rfl, readFails_received ..⟩

/-- The turn that takes the count byte, or the count high byte (R212, R213). -/
theorem turn_count {wide : Bool} (hq : s.seq = .rCnt wide) (hrx : s.rx = c :: rest)
    (hi : s.ilen.toNat < s.params.bufSize) :
    turn s = if wide then .next (beginRead (.rCnt2 c) (received c rest s))
      else rtuLength (c.toNat + 2) (received c rest s) := by
  simp only [turn, hq]
  exact readTurn_append hrx hi

/-- The turn that takes the count low byte (R213). -/
theorem turn_countLow {high : Byte} (hq : s.seq = .rCnt2 high) (hrx : s.rx = c :: rest)
    (hi : s.ilen.toNat < s.params.bufSize) :
    turn s = rtuLength (countWord high c + 2) (received c rest s) := by
  simp only [turn, hq]
  exact readTurn_append hrx hi

end

/-- Settles O34: the count byte is appended, and with the last of them the length is known. -/
theorem countGivesLength : Obligations.CountGivesLength := by
  intro s c rest hrx hi hs
  refine ⟨fun hq => ?_, fun hq => ?_, fun high hq => ?_⟩
  · rw [turn_count hq hrx hi]
    exact rtuLength_received hi hs _
  · rw [turn_count hq hrx hi]
    exact ⟨_, rfl, appends_received rfl rfl rfl, rfl, rfl, readsOn_received _⟩
  · rw [turn_countLow hq hrx hi]
    exact rtuLength_received hi hs _

/-! ### The checksums of a byte sequence -/

theorem foldl_add_toNat (bs : List Byte) (a : Byte) :
    (bs.foldl (fun a b => a + b) a).toNat = (a.toNat + byteSum bs) % 256 := by
  induction bs generalizing a with
  | nil => simp [byteSum, Nat.mod_eq_of_lt a.isLt]
  | cons b bs ih =>
    have hc : byteSum (b :: bs) = b.toNat + byteSum bs := rfl
    rw [List.foldl_cons, ih, hc, BitVec.toNat_add]
    omega

/-- The accumulator holds the sum modulo 256 (R131, R133). -/
theorem sumBytes_toNat (bs : List Byte) : (sumBytes bs).toNat = byteSum bs % 256 := by
  rw [sumBytes, foldl_add_toNat]
  simp

/-- The negation of the sum is the LRC8 (R132, R133). -/
theorem lrcOf_sumBytes (bs : List Byte) : lrcOf (sumBytes bs) = lrc8Of bs := by
  apply BitVec.eq_of_toNat_eq
  simp [lrcOf, lrc8Of, sumBytes_toNat]

/-- One bit of the CRC is linear (R143). -/
theorem crcShift_xor (x y : Half) : crcShift (x ^^^ y) = crcShift x ^^^ crcShift y := by
  have hswap (a b c : Half) : a ^^^ (b ^^^ c) = b ^^^ (a ^^^ c) := by ac_rfl
  unfold crcShift
  rw [BitVec.getLsbD_xor, BitVec.ushiftRight_xor_distrib]
  cases x.getLsbD 0 <;> cases y.getLsbD 0 <;> simp [BitVec.xor_assoc, BitVec.xor_comm, hswap]

theorem crcShifts_xor (n : Nat) (x y : Half) : crcShifts n (x ^^^ y) = crcShifts n x ^^^ crcShifts n y := by
  induction n generalizing x y with
  | zero => rfl
  | succ n ih => simp only [crcShifts, crcShift_xor, ih]

/-- Eight bits of the CRC move the high half down (R143). -/
theorem crcShifts_high : ∀ hi : Byte, crcShifts 8 (hi ++ 0#8) = 0#8 ++ hi := by decide

/-- Each entry of the tables is the bitwise CRC of its index (R135, R136, R143). -/
theorem tableAt_eq_crcBit : ∀ i : Byte, tableAt tblHi i ++ tableAt tblLo i = crcBit 0 i := by decide

theorem append_xor_setWidth {w v : Nat} (hi : BitVec w) (lo b : BitVec v) :
    (hi ++ lo) ^^^ b.setWidth (w + v) = (lo ^^^ b).setWidth (w + v) ^^^ (hi ++ 0#v) := by
  ext i
  by_cases h : i < v
  · simp [BitVec.getElem_append, h]
  · simp [BitVec.getElem_append, h, BitVec.getLsbD_of_ge _ _ (Nat.not_lt.1 h)]

/-- The table step is the bitwise step: the low half and the byte select the entry, the high half moves down (R138,
R143). -/
theorem crcStep_eq_crcBit (lo hi b : Byte) :
    (crcStep (lo, hi) b).2 ++ (crcStep (lo, hi) b).1 = crcBit (hi ++ lo) b := by
  have hmove : (tableAt tblHi (lo ^^^ b) ++ tableAt tblLo (lo ^^^ b)) ^^^ (0#8 ++ hi) =
      (tableAt tblHi (lo ^^^ b) ^^^ 0#8) ++ (tableAt tblLo (lo ^^^ b) ^^^ hi) := BitVec.xor_append
  have hsplit : (hi ++ lo) ^^^ b.setWidth 16 = (lo ^^^ b).setWidth 16 ^^^ (hi ++ 0#8) := append_xor_setWidth hi lo b
  calc (crcStep (lo, hi) b).2 ++ (crcStep (lo, hi) b).1
      = (tableAt tblHi (lo ^^^ b) ++ tableAt tblLo (lo ^^^ b)) ^^^ (0#8 ++ hi) := by
        rw [hmove, BitVec.xor_zero, BitVec.xor_comm _ hi]
        rfl
    _ = crcBit 0 (lo ^^^ b) ^^^ crcShifts 8 (hi ++ 0#8) := by rw [tableAt_eq_crcBit, crcShifts_high]
    _ = crcBit (hi ++ lo) b := by
        rw [crcBit, crcBit, hsplit, ← crcShifts_xor]
        congr 2
        exact BitVec.zero_xor

theorem foldl_crcStep (bs : List Byte) (r : Byte × Byte) :
    (bs.foldl crcStep r).2 ++ (bs.foldl crcStep r).1 = bs.foldl crcBit (r.2 ++ r.1) := by
  induction bs generalizing r with
  | nil => rfl
  | cons b bs ih => rw [List.foldl_cons, List.foldl_cons, ih, crcStep_eq_crcBit]

/-- The table-driven CRC of a byte sequence is the CRC16 (R141, R143). -/
theorem crcBytes_eq_crc16Of (bs : List Byte) : (crcBytes bs).2 ++ (crcBytes bs).1 = crc16Of bs :=
  foldl_crcStep bs _

/-! ### The bytes of a written frame -/

theorem readsAs_fetchBytes (sp : Space) (i n : Nat) (s : State) : ReadsAs sp i n s (fetchBytes sp i n s).1 :=
  ⟨fetchBytes_length .., fun k b hk h => fetchBytes_written sp i n k b s hk h⟩

/-- What a read may give rests on the bytes of its range alone (R56). -/
theorem ReadsAs.congr {sp : Space} {i n : Nat} {s t : State} {bs : List Byte} (h : ReadsAs sp i n s bs)
    (heq : ∀ k, k < n → byteAt sp (i + k) t = byteAt sp (i + k) s) : ReadsAs sp i n t bs :=
  ⟨h.1, fun k b hk hb => h.2 k b hk (heq k hk ▸ hb)⟩

theorem hexPairs_eq_hexText (bs : List Byte) : hexPairs bs = hexText bs := by
  induction bs with
  | nil => rfl
  | cons b bs ih =>
    rw [hexPairs, ih]
    rfl

/-- The bytes a write-frame operation's checksum covers: unit id, function code and body (R180, R200). -/
def coveredBytes (s : State) : List Byte := (fetchBytes .obuf 0 (s.op.len.toNat + 2) (placeHeader s)).1

theorem byteAt_placeHeader (j : Nat) (s : State) : byteAt .obuf j (placeHeader s) =
    if j = 0 then some s.op.uid else if j = 1 then some s.op.fc else byteAt .obuf j s := by
  simp only [placeHeader, byteAt_store, true_and]
  by_cases h : j = 0 <;> simp [h]

theorem byteAt_ascAttach (j : Nat) (bs : List Byte) (s : State) : byteAt .obuf j (ascAttach bs s) =
    if j = s.op.len.toNat + 2 then some (lrc8Of bs) else byteAt .obuf j s := by
  refine (byteAt_store .obuf .obuf (s.op.len.toNat + 2) j (lrcOf (sumBytes bs)) s).trans ?_
  simp only [true_and, lrcOf_sumBytes]

theorem byteAt_rtuAttach (j : Nat) (bs : List Byte) (s : State) : byteAt .obuf j (rtuAttach bs s) =
    if j = s.op.len.toNat + 3 then some (crcBytes bs).2
    else if j = s.op.len.toNat + 2 then some (crcBytes bs).1 else byteAt .obuf j s := by
  refine (byteAt_store .obuf .obuf (s.op.len.toNat + 3) j (crcBytes bs).2
    (store .obuf (s.op.len.toNat + 2) (crcBytes bs).1 (setCrc (crcBytes bs) s))).trans ?_
  simp only [true_and, byteAt_store]
  rfl

/-- What stands in OBUF once the ASCII frame is built (R180, R181). -/
theorem byteAt_ascBuild (j : Nat) (s : State) : byteAt .obuf j (ascBuild s) =
    if j = s.op.len.toNat + 2 then some (lrc8Of (coveredBytes s)) else byteAt .obuf j (placeHeader s) := by
  rw [ascBuild, byteAt_ascAttach, byteAt_fetchBytes, fetchBytes_op]
  rfl

/-- What stands in OBUF once the RTU frame is built, the CRC low byte first (R68, R200, R201). -/
theorem byteAt_rtuBuild (j : Nat) (s : State) : byteAt .obuf j (rtuBuild s) =
    if j = s.op.len.toNat + 3 then some (crcBytes (coveredBytes s)).2
    else if j = s.op.len.toNat + 2 then some (crcBytes (coveredBytes s)).1 else byteAt .obuf j (placeHeader s) := by
  rw [rtuBuild, byteAt_rtuAttach, byteAt_fetchBytes, fetchBytes_op]
  rfl

/-- Beside the frame in OBUF, what is pushed and what is reported, everything is as before: IBUF, `ILEN`, RX, and what
the host and the environment hold. -/
structure SameBesideFrame (s t : State) : Prop where
  host : SameHostSide s t
  ibuf : SameBuffer .ibuf s t
  ilen : t.ilen = s.ilen
  rx   : t.rx = s.rx
  env  : SameEnv s t

/-- From `s` to `u` a frame has been built in OBUF, and perhaps pushed: the operation has neither ended nor begun to
wait (R180, R200). -/
structure Builds (s u : State) : Prop extends SameBesideFrame s u where
  time    : u.time = s.time
  status  : u.status = s.status
  errInfo : u.errInfo = s.errInfo

/-- The frame in OBUF, the results and the checksums are as before. -/
structure SameFrame (u t : State) : Prop where
  obuf : t.obuf = u.obuf
  olen : t.olen = u.olen
  res  : t.res = u.res
  sums : SameSums u t

/-- With `n` characters on the line, the operation waits for their echo if the line echoes, and else is done (R182,
R203). -/
def AwaitsEcho (n : Nat) (s t : State) : Prop :=
  if s.cfg.ctrl.getLsbD 0 = true then WaitsIn (.wEcho 0 n) s t ∧ t.time = { s.time with t0Phase := s.time.now }
  else EndsWith 0 0 s t ∧ t.time = s.time

namespace Builds

variable {s u : State}

theorem refl (s : State) : Builds s s :=
  ⟨⟨sameHostSide_refl s, fun _ => rfl, rfl, rfl, rfl, rfl⟩, rfl, rfl, rfl⟩

theorem store (hb : Builds s u) (i : Nat) (b : Byte) : Builds s (store .obuf i b u) := { hb with }

theorem fetchBytes (hb : Builds s u) (sp : Space) (i n : Nat) : Builds s (fetchBytes sp i n u).2 := by
  rw [fetchBytes_state]
  exact { hb with }

theorem txPush (hb : Builds s u) (bs : List Byte) : Builds s (txPush bs u) := { hb with }

theorem placeHeader (hb : Builds s u) : Builds s (placeHeader u) := (hb.store 0 _).store 1 _

theorem ascBuild (s : State) : Builds s (ascBuild s) :=
  { ((refl s).placeHeader.fetchBytes .obuf 0 (s.op.len.toNat + 2)).store (s.op.len.toNat + 2)
      (lrcOf (sumBytes (coveredBytes s))) with }

theorem rtuAttach (hb : Builds s u) (bs : List Byte) : Builds s (rtuAttach bs u) := by
  have hc : Builds s (setCrc (crcBytes bs) u) := { hb with }
  exact { (hc.store (u.op.len.toNat + 2) (crcBytes bs).1).store (u.op.len.toNat + 3) (crcBytes bs).2 with }

theorem rtuBuild (s : State) : Builds s (rtuBuild s) := ((refl s).placeHeader.fetchBytes ..).rtuAttach _

end Builds

theorem sameFrame_refl (u : State) : SameFrame u u := ⟨rfl, rfl, rfl, sameSums_refl u⟩

/-- Once the characters are on the line the operation waits for the echo or is done, and nothing else changes. -/
theorem awaitsEcho_answers {s u : State} (hb : Builds s u) (n : Nat) :
    ∃ t, (if echoEnabled u then .next (beginPhase (.wEcho 0 n) u) else complete u) = (.next t : Result) ∧
      AwaitsEcho n s t ∧ t.tx = u.tx ∧ SameBesideFrame s t ∧ SameFrame u t := by
  have he : echoEnabled u = s.cfg.ctrl.getLsbD 0 := congrArg (fun c : CfgRegs => c.ctrl.getLsbD 0) hb.host.2.1
  rw [he]
  unfold AwaitsEcho
  split
  · refine ⟨_, rfl, ⟨⟨hb.status, hb.errInfo, rfl, rfl⟩, ?_⟩, rfl, { hb with }, { sameFrame_refl u with }⟩
    rw [beginPhase_time, hb.time]
  · refine ⟨_, rfl, ⟨?_, hb.time⟩, rfl, { hb with }, { sameFrame_refl u with }⟩
    simpa only [EndsWith, hb.status] using endsWith_ended 0 0 u

theorem SameFrame.byteAt {u t : State} (hf : SameFrame u t) (j : Nat) : byteAt .obuf j t = byteAt .obuf j u := by
  simp [Machine.byteAt, hf.obuf]

/-- A body that does not fit OBUF with `extra` bytes around it (R62, R266). -/
theorem frameFits_eq_false {extra : Nat} {s : State} (h : s.params.bufSize < s.op.len.toNat + extra) :
    frameFits extra s = false := by
  simpa [frameFits] using h

/-! ### ASC_WRITE_FRAME -/

/-- The bytes of the ASCII frame, read back from OBUF (R180). -/
def ascSent (s : State) : List Byte := (fetchBytes .obuf 0 (s.op.len.toNat + 3) (ascBuild s)).1

/-- The state when the ASCII frame has been pushed as characters (R180, R182). -/
def ascPushed (s : State) : State :=
  { txPush (charStart :: hexPairs (ascSent s) ++ [charCr, charLf])
      (fetchBytes .obuf 0 (s.op.len.toNat + 3) (ascBuild s)).2 with
    res.cnt := BitVec.ofNat 32 (2 * (ascSent s).length + 3) }

theorem exec_ascWriteFrame_unfit {s : State} (h : s.params.bufSize < s.op.len.toNat + 3) :
    exec .ascWriteFrame s = raise .badOperand 0 s := by
  simp [exec, execAscWriteFrame, frameFits_eq_false h]

theorem exec_ascWriteFrame_fits {s : State} (h : s.op.len.toNat + 3 ≤ s.params.bufSize) :
    exec .ascWriteFrame s = ascTransmit (ascSent s) (ascPushed s) := by
  simp only [exec, execAscWriteFrame, (frameFits_iff 3 s).2 h, if_true]
  rfl

theorem ascSent_length (s : State) : (ascSent s).length = s.op.len.toNat + 3 := fetchBytes_length ..

theorem builds_ascPushed (s : State) : Builds s (ascPushed s) :=
  { ((Builds.ascBuild s).fetchBytes .obuf 0 (s.op.len.toNat + 3)).txPush
      (charStart :: hexPairs (ascSent s) ++ [charCr, charLf]) with }

theorem byteAt_ascPushed (j : Nat) (s : State) : byteAt .obuf j (ascPushed s) = byteAt .obuf j (ascBuild s) :=
  byteAt_fetchBytes .obuf .obuf 0 (s.op.len.toNat + 3) j (ascBuild s)

theorem ascPushed_tx (s : State) : (ascPushed s).tx = s.tx ++ ascText (ascSent s) := by
  simp [ascPushed, ascBuild, ascAttach, placeHeader, ascText, ← hexPairs_eq_hexText, charStart, charCr, charLf]

theorem ascPushed_res (s : State) :
    (ascPushed s).res = { s.res with cnt := BitVec.ofNat 32 (2 * (s.op.len.toNat + 3) + 3) } := by
  simp [ascPushed, ascSent_length, ascBuild, ascAttach, placeHeader]

theorem ascPushed_olen (s : State) : (ascPushed s).olen = BitVec.ofNat 17 (s.op.len.toNat + 3) := by
  simp [ascPushed, ascBuild, ascAttach, placeHeader]

theorem ascPushed_lrcAcc (s : State) : (ascPushed s).lrcAcc = sumBytes (coveredBytes s) := by
  simp [ascPushed, ascBuild, ascAttach, coveredBytes]

theorem sameCrc_ascPushed (s : State) : SameCrc s (ascPushed s) := by
  simp [SameCrc, ascPushed, ascBuild, ascAttach, placeHeader]

/-- Settles O22: the frame is built in OBUF, read back and pushed, and then its echo is awaited, or all is done. -/
theorem ascWriteFrameBuildsFrame : Obligations.AscWriteFrameBuildsFrame := by
  refine ⟨rfl, fun s => ⟨fun h => ?_, fun h => ?_⟩⟩
  · rw [Runs, exec_ascWriteFrame_unfit h]
    exact raise_reports .badOperand 0 s
  · obtain ⟨t, ht, hecho, htx, hside, hframe⟩ :=
      awaitsEcho_answers (builds_ascPushed s) (2 * (ascSent s).length + 3)
    have hbuf (j : Nat) : byteAt .obuf j t = byteAt .obuf j (ascBuild s) :=
      (hframe.byteAt j).trans (byteAt_ascPushed j s)
    have hcovered : ReadsAs .obuf 0 (s.op.len.toNat + 2) t (coveredBytes s) :=
      (readsAs_fetchBytes _ _ _ (placeHeader s)).congr fun k hk => by
        rw [hbuf, byteAt_ascBuild, if_neg (by omega)]
    have hsent : ReadsAs .obuf 0 (s.op.len.toNat + 3) t (ascSent s) :=
      (readsAs_fetchBytes _ _ _ (ascBuild s)).congr fun k _ => hbuf _
    obtain ⟨hlo, hhi, hacc⟩ := hframe.sums
    rw [ascSent_length] at hecho
    refine ⟨t, (exec_ascWriteFrame_fits h).trans ht, coveredBytes s, ascSent s, hcovered, hsent, ?_, fun j => ?_,
      hframe.olen.trans (ascPushed_olen s), htx.trans (ascPushed_tx s), hframe.res.trans (ascPushed_res s),
      hecho, hside.host, hside.ibuf, hside.ilen, ?_, hside.rx, hside.env⟩
    · rw [hacc, ascPushed_lrcAcc, sumBytes_toNat]
    · rw [hbuf, byteAt_ascBuild, byteAt_placeHeader]
      -- the addresses differ, so the order in which they are asked for does not matter
      grind
    · exact ⟨hlo.trans (sameCrc_ascPushed s).1, hhi.trans (sameCrc_ascPushed s).2⟩

/-! ### RTU_WRITE_FRAME -/

/-- The frame in OBUF is read back and pushed, and then the echo is awaited or the operation done (R200, R202, R203). -/
theorem rtuTransmit_answers {s u : State} (hb : Builds s u) : ∃ t sent, rtuTransmit u = .next t ∧
    ReadsAs .obuf 0 (u.op.len.toNat + 4) u sent ∧ t.tx = u.tx ++ sent ∧ AwaitsEcho (u.op.len.toNat + 4) s t ∧
    SameBesideFrame s t ∧ SameFrame u t := by
  have hlen : (fetchBytes .obuf 0 (u.op.len.toNat + 4) u).1.length = u.op.len.toNat + 4 := fetchBytes_length ..
  obtain ⟨t, ht, hecho, htx, hside, hframe⟩ := awaitsEcho_answers
    ((hb.fetchBytes .obuf 0 (u.op.len.toNat + 4)).txPush (fetchBytes .obuf 0 (u.op.len.toNat + 4) u).1)
    (fetchBytes .obuf 0 (u.op.len.toNat + 4) u).1.length
  rw [hlen] at hecho
  obtain ⟨hobuf, holen, hres, hsums⟩ := hframe
  refine ⟨t, _, ht, readsAs_fetchBytes .., ?_, hecho, hside, ?_⟩
  · simpa using htx
  · exact ⟨by simpa using hobuf, by simpa using holen, by simpa using hres, by simpa [SameSums] using hsums⟩

theorem exec_rtuWriteFrame_unfit {s : State} (h : s.params.bufSize < s.op.len.toNat + 4) :
    exec .rtuWriteFrame s = raise .badOperand 0 s := by
  simp [exec, execRtuWriteFrame, frameFits_eq_false h]

theorem exec_rtuWriteFrame_fits {s : State} (h : s.op.len.toNat + 4 ≤ s.params.bufSize) :
    exec .rtuWriteFrame s = rtuSend (rtuBuild s) := by
  simp [exec, execRtuWriteFrame, (frameFits_iff 4 s).2 h]

/-- The frame built for `s` in `u` is pushed in the same step with the flush off, and not yet with it on (R200,
R202). -/
theorem rtuSend_answers {s u : State} (hb : Builds s u) (htx : u.tx = s.tx) : ∃ t sent, rtuSend u = .next t ∧
    ReadsAs .obuf 0 (s.op.len.toNat + 4) u sent ∧
    (if s.cfg.ctrl.getLsbD 1 = true
      then WaitsIn (.wFlush 0) s t ∧ t.tx = s.tx ∧ t.time = { s.time with t0Phase := s.time.now }
      else t.tx = s.tx ++ sent ∧ AwaitsEcho (s.op.len.toNat + 4) s t) ∧
    SameBesideFrame s t ∧ SameFrame u t := by
  obtain ⟨-, hcfg, -, hop, -⟩ := hb.host
  have hflush : flushEnabled u = s.cfg.ctrl.getLsbD 1 := congrArg (fun c : CfgRegs => c.ctrl.getLsbD 1) hcfg
  rw [rtuSend, hflush]
  split
  · refine ⟨_, _, rfl, hop ▸ readsAs_fetchBytes .obuf 0 (u.op.len.toNat + 4) u,
      ⟨⟨hb.status, hb.errInfo, rfl, rfl⟩, htx, ?_⟩, { hb with }, { sameFrame_refl u with }⟩
    rw [beginPhase_time, hb.time]
  · obtain ⟨t, sent, ht, hsent, htx', hecho, hside, hframe⟩ := rtuTransmit_answers hb
    rw [hop] at hsent hecho
    rw [htx] at htx'
    exact ⟨t, sent, ht, hsent, ⟨htx', hecho⟩, hside, hframe⟩

theorem rtuBuild_tx (s : State) : (rtuBuild s).tx = s.tx := by
  simp [rtuBuild, rtuAttach, placeHeader]

theorem rtuBuild_res (s : State) : (rtuBuild s).res = { s.res with cnt := 0 } := by
  simp [rtuBuild, rtuAttach, placeHeader]

theorem rtuBuild_olen (s : State) : (rtuBuild s).olen = BitVec.ofNat 17 (s.op.len.toNat + 4) := by
  simp [rtuBuild, rtuAttach, placeHeader]

theorem rtuBuild_lrcAcc (s : State) : (rtuBuild s).lrcAcc = s.lrcAcc := by
  simp [rtuBuild, rtuAttach, placeHeader]

theorem rtuBuild_crcLo (s : State) : (rtuBuild s).crcLo = (crcBytes (coveredBytes s)).1 := rfl

theorem rtuBuild_crcHi (s : State) : (rtuBuild s).crcHi = (crcBytes (coveredBytes s)).2 := rfl

/-- Settles O31: the frame is built in OBUF, and then the flush begins or the frame is pushed. -/
theorem rtuWriteFrameBuildsFrame : Obligations.RtuWriteFrameBuildsFrame := by
  refine ⟨rfl, fun s => ⟨fun h => ?_, fun h => ?_⟩⟩
  · rw [Runs, exec_rtuWriteFrame_unfit h]
    exact raise_reports .badOperand 0 s
  · obtain ⟨t, sent, ht, hsent, hsend, hside, hframe⟩ := rtuSend_answers (Builds.rtuBuild s) (rtuBuild_tx s)
    have hcovered : ReadsAs .obuf 0 (s.op.len.toNat + 2) t (coveredBytes s) :=
      (readsAs_fetchBytes _ _ _ (placeHeader s)).congr fun k hk => by
        rw [hframe.byteAt, byteAt_rtuBuild, if_neg (by omega), if_neg (by omega)]
    obtain ⟨hlo, hhi, hacc⟩ := hframe.sums
    rw [rtuBuild_crcLo] at hlo
    rw [rtuBuild_crcHi] at hhi
    refine ⟨t, (exec_rtuWriteFrame_fits h).trans ht, coveredBytes s, sent, hcovered,
      hsent.congr fun k _ => hframe.byteAt _, ?_, fun j => ?_, hframe.olen.trans (rtuBuild_olen s),
      hframe.res.trans (rtuBuild_res s), hsend, hside.host, hside.ibuf, hside.ilen,
      hacc.trans (rtuBuild_lrcAcc s), hside.rx, hside.env⟩
    · rw [hlo, hhi, crcBytes_eq_crc16Of]
    · rw [hframe.byteAt, byteAt_rtuBuild, byteAt_placeHeader, hlo, hhi]
      -- the addresses differ, so the order in which they are asked for does not matter
      grind

end Sys2Proof.Machine

/-! ## The encoding: an instruction and its word

`key_of_row` and `carried_of_row` say what a decoding table makes of a byte, `exists_row` that every instruction stands
in a table. Decoding and encoding are inverse because a byte matches at most one row of a table. -/

namespace Sys2Proof.Machine

/-! ### Words and rows -/

/-- What a row makes of a byte is an instruction of that row (R120). -/
theorem key_of_row {f : Format} {r : DecodeRow} (hr : r ∈ rowsOf f) (b : Byte) :
    (r.make b).key = ⟨f, r.mask, r.pattern⟩ := by
  cases f <;> fin_cases hr <;> rfl

/-- What a row makes of a byte carries that byte, unless the row has one word only. -/
theorem carried_of_row {f : Format} {r : DecodeRow} (hr : r ∈ rowsOf f) (b : Byte) :
    (r.make b).carried = if r.mask = 0xFF then none else some b := by
  cases f <;> fin_cases hr <;> rfl

/-- Every instruction stands in the table of its format: some row makes it of its word. -/
theorem exists_row (i : Instr) : ∃ r ∈ rowsOf i.key.format, r.make (encodeByte i) = i := by
  cases i <;> simp only [Instr.key, rowsOf, commandRows, functionCodeRows, characterRows, encodeByte,
    List.cons_append, List.nil_append, List.exists_mem_cons_iff, true_or, or_true, reduceCtorEq]

/-- The word of an instruction is the word it carries, or else its row's pattern. -/
theorem encodeByte_eq_getD (i : Instr) : encodeByte i = i.carried.getD i.key.pattern := by
  cases i <;> rfl

/-- The one word of a row matches the row. -/
theorem pattern_and_mask {i : Instr} (h : i.carried = none) : i.key.pattern &&& i.key.mask = i.key.pattern := by
  cases i <;> cases h <;> rfl

/-- The word of a well-formed instruction is one of its row's words (R120). -/
theorem encodeByte_and_mask {i : Instr} (h : i.WellFormed) : encodeByte i &&& i.key.mask = i.key.pattern := by
  rw [encodeByte_eq_getD]
  cases hc : i.carried with
  | none => exact pattern_and_mask hc
  | some w => exact h w hc

/-! ### Decoding the word of an instruction -/

/-- Two rows that one byte matches agree where both look. -/
theorem patterns_agree {b m p m' p' : Byte} (h : b &&& m = p) (h' : b &&& m' = p') :
    (p ^^^ p') &&& (m &&& m') = 0 := by
  have hl : p &&& (m &&& m') = b &&& (m &&& m') := by
    rw [← h, BitVec.and_assoc, ← BitVec.and_assoc m, BitVec.and_self]
  have hr : p' &&& (m &&& m') = b &&& (m &&& m') := by
    rw [← h', BitVec.and_comm m, BitVec.and_assoc, ← BitVec.and_assoc m', BitVec.and_self]
  calc (p ^^^ p') &&& (m &&& m')
      = (p &&& (m &&& m')) ^^^ (p' &&& (m &&& m')) := by ext; simp [Bool.and_xor_distrib_right]
    _ = 0 := by rw [hl, hr, BitVec.xor_self]; rfl

/-- In a table of rows with no common word, a byte finds the one row it matches. -/
theorem findRow_of_mem {rs : List DecodeRow} {b : Byte} {r : DecodeRow}
    (hd : rs.Pairwise fun r r' => (r.pattern ^^^ r'.pattern) &&& (r.mask &&& r'.mask) ≠ 0)
    (hr : r ∈ rs) (hb : b &&& r.mask = r.pattern) : findRow rs b = some (r.make b) := by
  induction rs with
  | nil => cases hr
  | cons r' rs ih =>
    obtain ⟨hd', hds⟩ := List.pairwise_cons.1 hd
    rcases List.mem_cons.1 hr with rfl | hr
    · exact if_pos hb
    · have hne : b &&& r'.mask ≠ r'.pattern := fun hb' => hd' r hr (patterns_agree hb' hb)
      exact (if_neg hne).trans (ih hds hr)

theorem decodeByte_encodeByte {i : Instr} (h : i.WellFormed) : decodeByte i.key.format (encodeByte i) = .ok i := by
  obtain ⟨r, hr, hi⟩ := exists_row i
  have hb : encodeByte i &&& r.mask = r.pattern := by
    have hk := key_of_row hr (encodeByte i)
    have hm := encodeByte_and_mask h
    rw [hi] at hk
    rwa [hk] at hm
  rw [decodeByte, findRow_of_mem (rows_disjoint _) hr hb, hi]

/-- Settles O52: the word finds the instruction's own row, since no two rows of a format share a word. -/
theorem decodeOfEncode : Obligations.DecodeOfEncode := fun i h => by
  simp only [encode, decode, decodeByte_encodeByte h]

/-! ### What a byte decodes to -/

theorem encodeByte_of_decode {f : Format} {b : Byte} {i : Instr} (h : decodeByte f b = .ok i) : encodeByte i = b := by
  obtain ⟨r, hr, hb, rfl⟩ := decodeByte_ok h
  rw [encodeByte_eq_getD, carried_of_row hr, key_of_row hr]
  split
  · exact (eq_of_and_full (‹r.mask = 0xFF› ▸ hb)).symm
  · rfl

theorem wellFormed_of_decode {f : Format} {b : Byte} {i : Instr} (h : decodeByte f b = .ok i) : i.WellFormed := by
  obtain ⟨r, hr, hb, rfl⟩ := decodeByte_ok h
  rw [Instr.WellFormed, carried_of_row hr, key_of_row hr]
  split
  · exact fun _ hw => nomatch hw
  · rintro _ ⟨⟩
    exact hb

/-- Whether a byte is in a row of a format. -/
def decodes (f : Format) (b : Byte) : Bool := (findRow (rowsOf f) b).isSome

theorem decodes_iff {f : Format} {b : Byte} : decodes f b = true ↔ ∃ i, decodeByte f b = .ok i := by
  unfold decodes decodeByte
  cases findRow (rowsOf f) b <;> simp

theorem decodes_cmd8 : ∀ b, decodes .cmd8 b = true := by decide +kernel

theorem decodes_rtuFc : ∀ b, decodes .rtuFc b = true := by decide +kernel

theorem decodes_ascChar : ∀ b, decodes .ascChar b = (isHex b || b == 0x3A || b == 0x0D || b == 0x0A) := by
  decide +kernel

/-- Settles O53: a byte is the word of what its row makes of it, and the rows of a table cover the bytes listed. -/
theorem encodeOfDecode : Obligations.EncodeOfDecode := by
  refine ⟨fun f b i h => ⟨encodeByte_of_decode h, wellFormed_of_decode h, format_of_decode h⟩,
    fun b => decodes_iff.1 (decodes_cmd8 b), fun b => decodes_iff.1 (decodes_rtuFc b), fun b => ?_⟩
  rw [← decodes_iff, decodes_ascChar]
  simp [or_assoc]

/-- Settles O54: each word stands in its table. -/
theorem sampleWordsDecode : Obligations.SampleWordsDecode :=
  ⟨rfl, rfl, rfl, rfl, rfl, rfl, rfl, rfl, rfl, rfl⟩

/-! ### Values of the tables -/

/-- Settles O37: by the 256 function codes. -/
theorem defaultFunctionCodeTable : Obligations.DefaultFunctionCodeTable := by
  unfold Obligations.DefaultFunctionCodeTable
  decide +kernel

/-- A nibble's character is a hex character with the nibble's value (R100, R156). -/
theorem hexChr_value : ∀ v : BitVec 4, isHex (hexChr v) = true ∧ hexVal (hexChr v) = v.toNat := by decide

theorem isHex_hexEnc (b : Byte) : isHex (hexEncHi b) = true ∧ isHex (hexEncLo b) = true :=
  ⟨(hexChr_value _).1, (hexChr_value _).1⟩

/-- Decoding the two characters of a byte gives the byte: its nibbles are put together again (R100, R156, R157). -/
theorem hexDecPair_hexEnc (b : Byte) : hexDecPair (hexEncHi b) (hexEncLo b) = b := by
  apply BitVec.eq_of_toNat_eq
  simp only [hexDecPair, hexEncHi, hexEncLo, (hexChr_value _).2, BitVec.extractLsb'_toNat, BitVec.toNat_ofNat,
    Nat.shiftRight_eq_div_pow]
  omega

/-- Settles O21: the ranges are those of the definitions, and the round trip is that of the nibbles. -/
theorem hexPairsRoundTrip : Obligations.HexPairsRoundTrip := by
  refine ⟨isHex_iff, fun c => ⟨fun h => if_pos h.2, fun h => if_neg (by omega)⟩, fun b => ?_⟩
  exact ⟨(isHex_hexEnc b).1, (isHex_hexEnc b).2, hexDecPair_hexEnc b⟩

end Sys2Proof.Machine

/-! ## Commands, and what a reader does with a character

The rows of a format share one meaning: the illegal codes that of `badCommand`, the function codes that of
`takeFunctionCode`, the characters that of `takeCharacter`. What a character does follows from what it is where a
reader waits. -/

namespace Sys2Proof.Machine

/-! ### The rows of a format -/

theorem exec_illegal {i : Instr} (h : illegalRow i = true) (s : State) : exec i s = badCommand (encodeByte i) s := by
  cases i <;> cases h <;> rfl

/-- The rows of format RTU_FC take their word as a function code (R110). -/
theorem exec_rtuFc {i : Instr} (h : i.key.format = .rtuFc) (s : State) :
    exec i s = takeFunctionCode (encodeByte i) s := by
  cases i <;> cases h <;> rfl

/-- The rows of format ASC_CHAR take their word as a character (R92). -/
theorem exec_ascChar {i : Instr} (h : i.key.format = .ascChar) (s : State) :
    exec i s = takeCharacter (encodeByte i) s := by
  cases i <;> cases h <;> rfl

theorem format_of_hexRow {i : Instr} (h : hexRow i = true) : i.key.format = .ascChar := by
  cases i <;> cases h <;> rfl

/-- The words of the hex rows are hex characters (R91). -/
theorem isHex_of_hexRow {i : Instr} (hw : i.WellFormed) (h : hexRow i = true) : isHex (encodeByte i) = true := by
  have all : ∀ c : Byte, (match decodeByte .ascChar c with
      | .ok i    => isHex c == hexRow i
      | .error _ => true) = true := by decide +kernel
  have hc := all (encodeByte i)
  rw [← format_of_hexRow h, decodeByte_encodeByte hw] at hc
  simpa [h] using hc

/-! ### The write of a code to CMD -/

theorem isOperationCode_eq_false_iff (v : Byte) : isOperationCode v = false ↔
    (0x09 ≤ v.toNat ∧ v.toNat ≤ 0x0F) ∨ (0x19 ≤ v.toNat ∧ v.toNat ≤ 0x1F) ∨ 0x24 ≤ v.toNat := by
  simp only [isOperationCode, Bool.or_eq_false_iff, decide_eq_false_iff_not]
  omega

/-- A code decodes to an illegal row exactly when it is no operation's (R120, R122). -/
theorem illegal_iff (v : Byte) :
    (∃ i, decodeByte .cmd8 v = .ok i ∧ illegalRow i = true) ↔ isOperationCode v = false := by
  obtain ⟨i, hi⟩ := decodes_iff.1 (decodes_cmd8 v)
  rw [hi, isOperationCode_of_decode hi]
  simp

/-- An idle write of `CMD` that is the next move executes the instruction its code decodes to, after the entry
(R231). -/
theorem step_command {s : State} {v : Word} {rest : List Move} {i : Instr} (hm : s.moves = .hostWrite 0x32 v :: rest)
    (hb : statusBusy s.status = false) (hd : decodeByte .cmd8 (v.setWidth 8) = .ok i) :
    step s = exec i (commandEntry (v.setWidth 8) { s with moves := rest }) := by
  rw [step_cons hm, moveStep_command v rest s hb, issue_of_decode hd]

/-- Settles O39: an illegal row is the error entry with its code, and the entry of such a code leaves the time alone. -/
theorem illegalCodesAreBadCommands : Obligations.IllegalCodesAreBadCommands := by
  refine ⟨fun b => (illegal_iff b).trans (isOperationCode_eq_false_iff b), fun i s h _ => ?_,
    fun s v rest i hm hb hd h => ?_⟩
  · rw [Runs, exec_illegal h]
    exact raise_reports .badCommand _ s
  · rw [step_command hm hb hd, exec_illegal h, encodeByte_of_decode hd]
    refine ⟨_, rfl, by simp [EndsWith, errCode], ?_⟩
    simp [ended, commandEntry, issueTime_of_decode hd, h]

/-- Settles O40: the state in which the instruction runs is that of the command's entry. -/
theorem stepIssuesCommand : Obligations.StepIssuesCommand := by
  intro s v rest i hm hb hd
  refine ⟨_, step_command hm hb hd, rfl, ?_, ?_, ?_, ?_, ?_, rfl, issueTime_of_decode hd s.time, rfl, rfl, rfl, rfl,
    rfl, ⟨rfl, rfl, rfl⟩, ⟨rfl, rfl⟩, ⟨rfl, rfl⟩, rfl, rfl, rfl, rfl, rfl⟩ <;> simp

/-! ### How a reader goes on or ends -/

/-- A read that begins waits in its state, and changes only `T0_READ` and the sequencer (R154). -/
theorem beginRead_waits (q : Seq) (s : State) : Answers (.next (beginRead q s)) fun t =>
    WaitsIn q s t ∧ t.ilen = s.ilen ∧ SameWhileReading s t :=
  ⟨_, rfl, ⟨rfl, rfl, rfl, rfl⟩, rfl, sameWhileReading_beginRead q s⟩

theorem ascSeek_resyncs (s : State) : Answers (ascSeek s) (Resyncs s) := beginRead_empty .aSeek s

/-- A token ends its operation with the token's kind and byte (R163). -/
theorem tokenDone_tokenEnds (kind : BitVec 2) (b : Byte) (s : State) :
    Answers (tokenDone kind b s) (TokenEnds 0 0 kind b s) :=
  ⟨_, rfl, endsWith_ended 0 0 s, sameSums_refl s, rfl, sameRest_refl s⟩

/-! ### A character in each wait state -/

section
variable {s : State} {c : Byte}

theorem takeCharacter_xTok1 (h : s.seq = .xTok1) : takeCharacter c s = tokenFirst c s := by
  simp only [takeCharacter, h]

theorem takeCharacter_xTok2 {first : Byte} (h : s.seq = .xTok2 first) : takeCharacter c s = tokenSecond first c s := by
  simp only [takeCharacter, h]

theorem takeCharacter_aSeek (h : s.seq = .aSeek) (hc : c ≠ charStart) : takeCharacter c s = ascSeek s := by
  simp only [takeCharacter, h, hc, if_false]

theorem takeCharacter_aHi (h : s.seq = .aHi) : takeCharacter c s = ascHigh c s := by
  simp only [takeCharacter, h]

theorem takeCharacter_aLo {high : Byte} (h : s.seq = .aLo high) : takeCharacter c s = ascLow high c s := by
  simp only [takeCharacter, h]

theorem takeCharacter_aLf (h : s.seq = .aLf) : takeCharacter c s = ascEnd c s := by
  simp only [takeCharacter, h]

/-- A character where the frame reader awaits none of its kind fails the frame (R185): before the start token any but
`':'`, as a low nibble any but a hex character, after `CR` any but `LF`. -/
theorem takeCharacter_resyncs {high : Byte} (hs : c ≠ charStart)
    (h : s.seq = .aSeek ∨ s.seq = .aLo high ∧ isHex c = false ∨ s.seq = .aLf ∧ c ≠ charLf) :
    Answers (takeCharacter c s) (Resyncs s) := by
  have hseek : takeCharacter c s = ascSeek s := by
    rcases h with h | ⟨h, hx⟩ | ⟨h, hl⟩
    · exact takeCharacter_aSeek h hs
    · simp [takeCharacter_aLo h, ascLow, hs, hx]
    · simp [takeCharacter_aLf h, ascEnd, hs, hl]
  exact hseek ▸ ascSeek_resyncs s

/-- A start token begins a new frame in every wait state of the frame reader (R185, R187). -/
theorem takeCharacter_start {high : Byte} (h : s.seq = .aSeek ∨ s.seq = .aHi ∨ s.seq = .aLo high ∨ s.seq = .aLf) :
    takeCharacter charStart s = ascAccum s := by
  rcases h with h | h | h | h <;> simp [takeCharacter, h, ascHigh, ascLow, ascEnd]

/-! ### Tokens -/

/-- `CR` and the hex characters begin a token of two characters (R158). -/
theorem tokenFirst_waits (h : c = charCr ∨ isHex c = true) : tokenFirst c s = .next (beginRead (.xTok2 c) s) := by
  rcases h with rfl | h
  · rfl
  · simp [tokenFirst, (isHex_ne h).1, h]

theorem tokenFirst_bad (hs : c ≠ charStart) (hc : c ≠ charCr) (hx : isHex c = false) :
    tokenFirst c s = badHex c s := by
  simp [tokenFirst, hs, hc, hx]

theorem tokenSecond_notLf (h : c ≠ charLf) : tokenSecond charCr c s = badHex c s := by
  simp [tokenSecond, h]

theorem tokenSecond_hex {first : Byte} (hf : first ≠ charCr) (hx : isHex c = true) :
    tokenSecond first c s = tokenDone 0 (hexDecPair first c) s := by
  simp [tokenSecond, hf, hx]

theorem tokenSecond_notHex {first : Byte} (hf : first ≠ charCr) (hx : isHex c = false) :
    tokenSecond first c s = badHex c s := by
  simp [tokenSecond, hf, hx]

/-- A second character that is neither a hex character nor `LF` is `BadHex` whatever the first was (R158). -/
theorem tokenSecond_bad {first : Byte} (hl : c ≠ charLf) (hx : isHex c = false) :
    tokenSecond first c s = badHex c s := by
  by_cases hf : first = charCr
  · exact hf ▸ tokenSecond_notLf hl
  · exact tokenSecond_notHex hf hx

end

/-- Settles O25: the first branch of every wait state of the frame reader; the token reader takes it as a token. -/
theorem startCharacterRestarts : Obligations.StartCharacterRestarts := by
  refine ⟨rfl, fun s => ⟨fun high h => ?_, fun h => ?_, fun first h => ?_⟩⟩
  all_goals rw [Runs, exec_ascChar rfl]
  · exact (takeCharacter_start h).symm ▸ beginRead_empty .aHi s
  · exact (takeCharacter_xTok1 h).symm ▸ tokenDone_tokenEnds 1 0 s
  · rw [takeCharacter_xTok2 h, tokenSecond_bad (by decide) (by decide)]
    exact badHex_tokenEnds 0x3A s

/-- Settles O26: `CR` is neither a start token, nor a hex character, nor `LF`. -/
theorem crCharacterBeginsEnd : Obligations.CrCharacterBeginsEnd := by
  refine ⟨rfl, fun s => ⟨fun h => ?_, fun high h => ?_, fun h => ?_, fun first h => ?_⟩⟩
  all_goals rw [Runs, exec_ascChar rfl]
  · exact (takeCharacter_aHi h).symm ▸ beginRead_waits .aLf s
  · exact takeCharacter_resyncs (by decide) (h.imp_right (Or.imp (⟨·, rfl⟩) (⟨·, by decide⟩)))
  · exact (takeCharacter_xTok1 h).symm ▸ beginRead_waits (.xTok2 0x0D) s
  · rw [takeCharacter_xTok2 h, tokenSecond_bad (by decide) (by decide)]
    exact badHex_tokenEnds 0x0D s

/-- Settles O27: `LF` completes a token after `CR`, and is no character awaited elsewhere. -/
theorem lfCharacterWithoutCr : Obligations.LfCharacterWithoutCr := by
  refine ⟨rfl, fun s => ⟨fun high h => ?_, fun h => ?_, fun h => ?_, fun first h hf => ?_⟩⟩
  all_goals rw [Runs, exec_ascChar rfl]
  · rcases h with h | h | h
    · exact takeCharacter_resyncs (high := high) (by decide) (.inl h)
    · exact (takeCharacter_aHi h).symm ▸ ascSeek_resyncs s
    · exact takeCharacter_resyncs (by decide) (.inr (.inl ⟨h, rfl⟩))
  · exact (takeCharacter_xTok1 h).symm ▸ badHex_tokenEnds 0x0A s
  · exact (takeCharacter_xTok2 h).symm ▸ tokenDone_tokenEnds 2 0 s
  · rw [takeCharacter_xTok2 h, tokenSecond_notHex hf (by decide)]
    exact badHex_tokenEnds 0x0A s

/-! ### Hex characters -/

section
variable {s : State} {c : Byte}

theorem ascHigh_hex (h : isHex c = true) : ascHigh c s = .next (beginRead (.aLo c) s) := by
  simp [ascHigh, isHex_ne h, h]

theorem ascLow_hex (h : isHex c = true) (high : Byte) : ascLow high c s = ascByte (hexDecPair high c) s := by
  simp [ascLow, isHex_ne h, h]

/-- A decoded byte for which IBUF has room is appended, and the reader waits for the next pair (R185). -/
theorem ascByte_room (h : s.ilen.toNat < s.params.bufSize) (b : Byte) :
    Answers (ascByte b s) fun t => Appends b s t ∧ ReadsOn .aHi s t ∧ SameLine s t := by
  simp only [ascByte, h.ne, h, if_true, if_false]
  exact ⟨_, rfl, appends_received (rest := s.rx) rfl rfl rfl, readsOn_received (rest := s.rx) .aHi, rfl, rfl⟩

theorem ascByte_full (h : s.ilen.toNat = s.params.bufSize) (b : Byte) : ascByte b s = ascSeek s := if_pos h

end

/-- Settles O28: the rows take their word as a character, which is a hex character. -/
theorem hexCharactersAccumulate : Obligations.HexCharactersAccumulate := by
  intro i s hrow hw
  have hx := isHex_of_hexRow hw hrow
  obtain ⟨hs, hc, hl⟩ := isHex_ne hx
  simp only [Runs, exec_ascChar (format_of_hexRow hrow)]
  refine ⟨fun h => ?_, fun high h hi => ?_, fun high h hi => ?_, fun h => ?_, fun h => ?_, fun h => ?_,
    fun first h hf => ?_⟩
  · rw [takeCharacter_aHi h, ascHigh_hex hx]
    exact beginRead_waits _ s
  · rw [takeCharacter_aLo h, ascLow_hex hx]
    exact ascByte_room hi _
  · rw [takeCharacter_aLo h, ascLow_hex hx, ascByte_full hi]
    exact ascSeek_resyncs s
  · exact takeCharacter_resyncs (high := 0) hs (h.imp_right fun h => .inr ⟨h, hl⟩)
  · rw [takeCharacter_xTok1 h, tokenFirst_waits (.inr hx)]
    exact beginRead_waits _ s
  · rw [takeCharacter_xTok2 h]
    exact (tokenSecond_notLf hl).symm ▸ badHex_tokenEnds _ s
  · rw [takeCharacter_xTok2 h, tokenSecond_hex hf hx]
    exact tokenDone_tokenEnds 0 _ s

/-! ### ASC_RX_TOKEN -/

section
variable {s : State} {c : Byte} {rest : List Byte}

theorem turn_xTok1 (hq : s.seq = .xTok1) (hrx : s.rx = c :: rest) : turn s = tokenFirst c (popped rest s) := by
  rw [turn_tokenReader (first := 0) (.inl hq), readTurn_cons hrx, character_eq]
  exact takeCharacter_xTok1 hq

theorem turn_xTok2 {first : Byte} (hq : s.seq = .xTok2 first) (hrx : s.rx = c :: rest) :
    turn s = tokenSecond first c (popped rest s) := by
  rw [turn_tokenReader (.inr hq), readTurn_cons hrx, character_eq]
  exact takeCharacter_xTok2 hq

theorem turns_one (s : State) : turns 1 s = turn s := by
  cases h : turn s <;> simp only [turns, h]

/-- The state in which the token reader takes its second character, `rest` being what follows it. -/
def secondTaken (first : Byte) (rest : List Byte) (s : State) : State :=
  popped rest (beginRead (.xTok2 first) (popped rest s))

/-- Two turns of the token reader, when its first character begins a token of two. -/
theorem turns_two_token {first : Byte} (hq : s.seq = .xTok1) (hrx : s.rx = first :: c :: rest)
    (hf : first = charCr ∨ isHex first = true) : turns 2 s = tokenSecond first c (secondTaken first rest s) := by
  have h1 : turn s = .next (beginRead (.xTok2 first) (popped (c :: rest) s)) := by
    rw [turn_xTok1 hq hrx, tokenFirst_waits hf]
  rw [turns_succ 1 h1, turns_one]
  exact turn_xTok2 rfl rfl

/-- A token, read from a state that reports what `s` does, ends the operation of `s` (R163). -/
theorem tokenDone_answers {v : State} (hres : v.res = s.res) (hst : v.status = s.status) (kind : BitVec 2) (b : Byte) :
    Answers (tokenDone kind b v) fun u =>
      u.rx = v.rx ∧ u.res = { s.res with tok := kind, lo := b } ∧ EndsWith 0 0 s u :=
  ⟨_, rfl, rfl, hres ▸ rfl, by simp [EndsWith, hst]⟩

/-- A bad character, read from a state that reports what `s` does, ends the operation of `s` (R158, R274). -/
theorem badHex_answers {v : State} (hres : v.res = s.res) (hst : v.status = s.status) :
    Answers (badHex c v) fun u => u.rx = v.rx ∧ u.res = s.res ∧ EndsWith 8 (c.setWidth 16) s u :=
  ⟨_, rfl, rfl, hres, by simp [EndsWith, hst, errCode]⟩

end

/-- Settles O13: one turn takes a token of one character or a bad first character, two take any other. -/
theorem tokenReaderReadsTokens : Obligations.TokenReaderReadsTokens := by
  refine ⟨rfl, fun s => ?_⟩
  have one {c rest} (hrx : s.rx = c :: rest) := turn_xTok1 (s := beginRead .xTok1 s) rfl hrx
  have two {c1 c2 rest} (hrx : s.rx = c1 :: c2 :: rest) := turns_two_token (s := beginRead .xTok1 s) rfl hrx
  refine ⟨beginRead .xTok1 s, rfl, ⟨rfl, rfl, rfl, rfl⟩, rfl, sameWhileReading_beginRead _ s,
    fun rest hrx => ?_, fun rest hrx => ?_, fun c1 c2 rest hrx h1 h2 => ?_, fun c rest hrx hs hc hx => ?_,
    fun c rest hrx hl => ?_, fun c1 c2 rest hrx h1 h2 => ?_⟩
  · rw [one hrx]
    exact tokenDone_answers rfl rfl 1 0
  · rw [two hrx (.inl rfl)]
    exact tokenDone_answers rfl rfl 2 0
  · rw [two hrx (.inr h1), tokenSecond_hex (isHex_ne h1).2.1 h2]
    exact tokenDone_answers rfl rfl 0 _
  · rw [one hrx, tokenFirst_bad hs hc hx]
    exact badHex_answers rfl rfl
  · rw [two hrx (.inl rfl)]
    exact (tokenSecond_notLf hl).symm ▸ badHex_answers rfl rfl
  · rw [two hrx (.inr h1), tokenSecond_notHex (isHex_ne h1).2.1 h2]
    exact badHex_answers rfl rfl

end Sys2Proof.Machine

/-! ## Reading an RTU frame

A byte received is appended to IBUF (`received`); `HasRead` says what has been read of a frame, and `rtuCheck_frame`
what the reader makes of a complete one. -/

namespace Sys2Proof.Machine

/-! ### The function code -/

section
variable {s : State} {c : Byte} {rest : List Byte}

/-- What the reader does by the class of a code does not rest on RX or on whether it slept. -/
theorem rtuClass_popped (f : Byte) (u : State) : rtuClass f (popped u.rx u) = rtuClass f u := by
  have hl : lenClass f (popped u.rx u) = lenClass f u := rfl
  unfold rtuClass
  rw [hl]
  cases lenClass f u <;> rfl

/-- The function code is appended, and its class says how the reader goes on (R210). -/
theorem takeFunctionCode_received (hq : s.seq = .rFc) (hi : s.ilen.toNat < s.params.bufSize) :
    takeFunctionCode c s = rtuClass c (received c s.rx s) := by
  rw [takeFunctionCode, if_pos hq, append_room hi, ← rtuClass_popped]
  rfl

end

/-- Settles O33: the rows of RTU_FC take their word as a function code, whose class says how the reader goes on. -/
theorem functionCodeGivesLength : Obligations.FunctionCodeGivesLength := by
  intro i s hf _ hq hi hsz
  have hl : lenClass (encodeByte i) (received (encodeByte i) s.rx s) = classIn s.params.fcTable (encodeByte i) := rfl
  have length (rem : Nat) : Answers (rtuLength rem (received (encodeByte i) s.rx s)) fun t =>
      Appends (encodeByte i) s t ∧ SameLine s t ∧ LengthKnown (s.ilen.toNat + 1) rem s t := by
    obtain ⟨t, ht, ha, hrx, htx, hk⟩ := rtuLength_received (c := encodeByte i) (rest := s.rx) hi hsz rem
    exact ⟨t, ht, ha, ⟨hrx, htx⟩, hk⟩
  rw [Runs, exec_rtuFc hf, takeFunctionCode_received hq hi, rtuClass, hl]
  cases classIn s.params.fcTable (encodeByte i) with
  | unknown => exact ⟨_, rfl, appends_received rfl rfl rfl, ⟨rfl, rfl⟩, readFails_received ..⟩
  | count8 => exact ⟨_, rfl, appends_received rfl rfl rfl, ⟨rfl, rfl⟩, readsOn_received _⟩
  | count16 => exact ⟨_, rfl, appends_received rfl rfl rfl, ⟨rfl, rfl⟩, readsOn_received _⟩
  | fixed6 => exact length 6
  | fixed3 => exact length 3
  | fixed8 => exact length 8

/-! ### A complete frame -/

/-- Reading a range in which every byte has been written gives its bytes, and nothing changes. -/
theorem fetchBytes_of_written {sp : Space} {i : Nat} {s : State} {bs : List Byte}
    (h : ∀ k b, bs[k]? = some b → byteAt sp (i + k) s = some b) : fetchBytes sp i bs.length s = (bs, s) := by
  induction bs generalizing i with
  | nil => rfl
  | cons b bs ih =>
    have hb : fetch sp i s = (b, s) := fetch_written sp i b s (h 0 b rfl)
    have hbs : fetchBytes sp (i + 1) bs.length s = (bs, s) :=
      ih fun k b' hk => by simpa only [Nat.add_assoc, Nat.add_comm 1 k] using h (k + 1) b' hk
    simp only [List.length_cons, fetchBytes, hb, hbs]

theorem append_inj {hi lo hi' lo' : Byte} : hi ++ lo = hi' ++ lo' ↔ lo = lo' ∧ hi = hi' := by
  refine ⟨fun h => ?_, by rintro ⟨rfl, rfl⟩; rfl⟩
  have hlo : lo = lo' := by simpa only [BitVec.setWidth_append_eq_right] using congrArg (BitVec.setWidth 8) h
  subst hlo
  exact ⟨rfl, (BitVec.append_left_inj lo).1 h⟩

/-- What the reader makes of a complete frame: the CRC register holds the CRC of the bytes before the received one; if
both received bytes agree with it, the unit-id filter runs (R102, R210, R211, R221). -/
theorem rtuCheck_frame {u : State} {uid fc low high : Byte} {body : List Byte}
    (hh : Holds .ibuf (uid :: fc :: body ++ [low, high]) u) (hi : u.ilen.toNat = body.length + 4)
    (hw : u.unitIdWritten = true) :
    rtuCheck u = if high ++ low = crc16Of (uid :: fc :: body)
      then rtuDeliver uid fc u.cfg.unitId (body.length + 2) (setCrc (crcBytes (uid :: fc :: body)) u)
      else raise .crcMismatch (high ++ low) (setCrc (crcBytes (uid :: fc :: body)) u) := by
  have hd : u.ilen.toNat - 2 = (uid :: fc :: body).length := by simp [hi]
  have hsum : rtuSum (u.ilen.toNat - 2) u = setCrc (crcBytes (uid :: fc :: body)) u := by
    have hb : fetchBytes .ibuf 0 (uid :: fc :: body).length u = (uid :: fc :: body, u) :=
      fetchBytes_of_written fun k b hk => by
        rw [Nat.zero_add]
        exact hh k b (by rw [List.getElem?_append_left (List.getElem?_eq_some_iff.1 hk).1, hk])
    rw [rtuSum, hd, hb]
  have read (k : Nat) (b : Byte) (hk : (uid :: fc :: body ++ [low, high])[k]? = some b) :
      fetch .ibuf k (setCrc (crcBytes (uid :: fc :: body)) u) = (b, setCrc (crcBytes (uid :: fc :: body)) u) :=
    fetch_written _ _ _ _ (hh k b hk)
  have hlow := read (uid :: fc :: body).length low (by simp)
  have hhigh := read ((uid :: fc :: body).length + 1) high (by simp)
  have hunit : readUnitId (setCrc (crcBytes (uid :: fc :: body)) u) =
      (u.cfg.unitId, setCrc (crcBytes (uid :: fc :: body)) u) := readUnitId_written _ hw
  have hcrc : (low = (crcBytes (uid :: fc :: body)).1 ∧ high = (crcBytes (uid :: fc :: body)).2) ↔
      high ++ low = crc16Of (uid :: fc :: body) := by rw [← crcBytes_eq_crc16Of, append_inj]
  rw [rtuCheck, hsum, hd, hlow, hhigh, rtuVerify]
  refine if_congr hcrc ?_ rfl
  rw [rtuFilter, read 0 uid rfl, hunit, read 1 fc rfl]
  rfl

/-! ### One byte of a frame -/

section
variable {s : State} {c : Byte} {rest : List Byte}

/-- What stands in IBUF once a byte has been received. -/
theorem byteAt_received (j : Nat) : byteAt .ibuf j (received c rest s) =
    if j = s.ilen.toNat then some c else byteAt .ibuf j s :=
  (appends_received (t := received c rest s) rfl rfl rfl).2.2 j

/-- The bytes read so far stand in IBUF, and with them the byte received. -/
theorem holds_received {bs : List Byte} (hh : Holds .ibuf bs s) (hi : s.ilen.toNat = bs.length) :
    Holds .ibuf (bs ++ [c]) (received c rest s) := by
  intro k b hk
  rw [byteAt_received, hi]
  split
  · simpa [‹k = bs.length›] using hk
  · refine hh k b ?_
    have hlt : k < (bs ++ [c]).length := (List.getElem?_eq_some_iff.1 hk).1
    rw [List.length_append, List.length_singleton] at hlt
    rwa [List.getElem?_append_left (by omega)] at hk

theorem turn_unitId (hq : s.seq = .rUid) (hrx : s.rx = c :: rest) (hi : s.ilen.toNat < s.params.bufSize) :
    turn s = .next (beginRead .rFc (received c rest s)) := by
  simp only [turn, hq]
  exact readTurn_append (k := fun _ t => .next (beginRead .rFc t)) hrx hi

theorem turn_functionCode (hq : s.seq = .rFc) (hrx : s.rx = c :: rest) (hi : s.ilen.toNat < s.params.bufSize) :
    turn s = rtuClass c (received c rest s) := by
  simp only [turn, hq]
  rw [readTurn_cons hrx, functionCode_eq]
  exact takeFunctionCode_received hq hi

theorem turn_body {more : Nat} (hq : s.seq = .rBody more) (hrx : s.rx = c :: rest)
    (hi : s.ilen.toNat < s.params.bufSize) : turn s = rtuNext more (received c rest s) := by
  simp only [turn, hq]
  exact readTurn_append (k := fun _ => rtuNext more) hrx hi

end

/-! ### The last byte of a frame -/

/-- The last byte `high` has been received in `s`, and the CRC of the bytes it completes formed: beside `ILEN`, the
results, the time, the report and the sequencer, nothing else has changed (R210, R211). -/
def Checked (covered : List Byte) (high : Byte) (rest : List Byte) (s t : State) : Prop :=
  t.crcHi ++ t.crcLo = crc16Of covered ∧ t.lrcAcc = s.lrcAcc ∧ t.rx = rest ∧ t.tx = s.tx ∧ SameBuffer .obuf s t ∧
  SameHostSide s t ∧ t.olen = s.olen ∧ SameEnv s t ∧
  ∀ j, byteAt .ibuf j t = if j = s.ilen.toNat then some high else byteAt .ibuf j s

theorem checked_received (covered : List Byte) (high : Byte) (rest : List Byte) (s : State) :
    Checked covered high rest s (setCrc (crcBytes covered) (received high rest s)) :=
  ⟨crcBytes_eq_crc16Of covered, rfl, rfl, rfl, fun _ => rfl, sameHostSide_refl s, rfl, ⟨rfl, rfl⟩, byteAt_received⟩

/-- An outcome in which the frame has been checked, with what it reports. -/
theorem Checked.answers {covered : List Byte} {high : Byte} {rest : List Byte} {s t : State} {r : Result}
    {q : State → Prop} (hr : r = .next t) (hc : Checked covered high rest s t) (hq : q t) : Answers r fun t =>
      t.crcHi ++ t.crcLo = crc16Of covered ∧ t.lrcAcc = s.lrcAcc ∧ t.rx = rest ∧ t.tx = s.tx ∧ SameBuffer .obuf s t ∧
      SameHostSide s t ∧ t.olen = s.olen ∧ SameEnv s t ∧
      (∀ j, byteAt .ibuf j t = if j = s.ilen.toNat then some high else byteAt .ibuf j s) ∧ q t := by
  obtain ⟨hcrc, hlrc, hrx, htx, ho, hhost, holen, henv, hib⟩ := hc
  exact ⟨t, hr, hcrc, hlrc, hrx, htx, ho, hhost, holen, henv, hib, hq⟩

/-- Settles O35: the turn appends the byte, and the frame it completes is checked. -/
theorem rtuFrameCheck : Obligations.RtuFrameCheck := by
  intro s uid fc body low high rest hq hrx hlen hi hsz hh hw
  have hh' : Holds .ibuf (uid :: fc :: body ++ [low, high]) (received high rest s) := by
    simpa using holds_received (c := high) (rest := rest) hh (by simpa using hlen.symm)
  have hilen : (received high rest s).ilen.toNat = body.length + 4 := by
    rw [toNat_ilen_received hi hsz, ← hlen]
    simp
  have hck := checked_received (uid :: fc :: body) high rest s
  have ht : turn s = rtuCheck (received high rest s) := turn_body hq hrx hi
  rw [ht, rtuCheck_frame hh' hilen hw]
  by_cases hc : high ++ low = crc16Of (uid :: fc :: body)
  · by_cases hu : uid = s.cfg.unitId
    · refine Checked.answers ((if_pos hc).trans (if_pos hu)) hck ?_
      simp only [ne_eq, hc, hu, not_true_eq_false, if_false]
      exact ⟨endsWith_ended 0 0 s, rfl, rfl, rfl⟩
    · refine Checked.answers ((if_pos hc).trans (if_neg hu)) hck ?_
      simp only [ne_eq, hc, hu, not_true_eq_false, not_false_eq_true, if_false, if_true]
      exact ⟨⟨rfl, rfl, rfl, rfl⟩, rfl, rfl, rfl⟩
  · refine Checked.answers (if_neg hc) hck ?_
    simp only [ne_eq, hc, not_false_eq_true, if_true]
    exact ⟨endsWith_ended 2 _ s, rfl, rfl, rfl⟩

/-! ### What has been read of a frame -/

/-- The RTU reader of `s` has read the bytes `bs` of a frame, and RX holds `rest`. -/
structure HasRead (s : State) (bs rest : List Byte) (u : State) : Prop where
  holds   : Holds .ibuf bs u
  ilen    : u.ilen.toNat = bs.length
  rx      : u.rx = rest
  params  : u.params = s.params
  cfg     : u.cfg = s.cfg
  written : u.unitIdWritten = s.unitIdWritten
  res     : u.res = s.res
  status  : u.status = s.status

section
variable {s u v : State} {bs ys tail rest : List Byte} {c : Byte}

theorem HasRead.beginRead (h : HasRead s bs rest u) (q : Seq) : HasRead s bs rest (beginRead q u) := { h with }

theorem HasRead.room (h : HasRead s bs rest u) (hroom : bs.length < s.params.bufSize) :
    u.ilen.toNat < u.params.bufSize := by rwa [h.ilen, h.params]

/-- With a byte received, that byte too has been read (R210). -/
theorem HasRead.received (h : HasRead s bs (c :: rest) u) (hroom : bs.length < s.params.bufSize)
    (hsz : s.params.bufSize < 2 ^ 17) : HasRead s (bs ++ [c]) rest (received c rest u) :=
  { h with
    holds := holds_received h.holds h.ilen
    ilen := by rw [toNat_ilen_received (h.room hroom) (h.params ▸ hsz), h.ilen, List.length_append]; rfl
    rx := rfl }

/-- The reader waits for the bytes that remain, if the frame fits IBUF (R210, R220). -/
theorem HasRead.rtuLength_eq (h : HasRead s bs rest u) {rem : Nat} (hfit : bs.length + rem ≤ s.params.bufSize) :
    rtuLength rem u = .next (Machine.beginRead (.rBody (rem - 1)) u) := by
  rw [rtuLength, h.ilen, h.params, if_pos hfit]

/-- The turns of `S_R_BODY` take the bytes that remain, one each, and with the last of them the frame is checked
(R210). -/
theorem HasRead.turns_body (hsz : s.params.bufSize < 2 ^ 17) {more : Nat} (h : HasRead s bs (ys ++ tail) u)
    (hq : u.seq = .rBody more) (hlen : ys.length = more + 1) (hfit : bs.length + ys.length ≤ s.params.bufSize) :
    ∃ w, turns ys.length u = rtuCheck w ∧ HasRead s (bs ++ ys) tail w := by
  induction more generalizing bs ys u with
  | zero =>
    obtain ⟨y, rfl⟩ := List.length_eq_one_iff.1 hlen
    have hroom : bs.length < s.params.bufSize := hfit
    exact ⟨_, (turns_one u).trans (turn_body hq h.rx (h.room hroom)), h.received hroom hsz⟩
  | succ n ih =>
    obtain ⟨y, ys, rfl⟩ := List.exists_cons_of_length_eq_add_one hlen
    rw [List.length_cons] at hlen hfit
    have hroom : bs.length < s.params.bufSize := by omega
    have ht : turn u = .next (Machine.beginRead (.rBody n) (Machine.received y (ys ++ tail) u)) :=
      turn_body hq h.rx (h.room hroom)
    obtain ⟨w, hw, hread⟩ := ih ((h.received hroom hsz).beginRead _) rfl (by omega)
      (by rw [List.length_append, List.length_singleton]; omega)
    exact ⟨w, (turns_succ _ ht).trans hw, by simpa using hread⟩

/-- A turn that makes the length known, and the turns of the bytes that remain (R210, R212 to R216). -/
theorem HasRead.turns_length (hsz : s.params.bufSize < 2 ^ 17) (h : HasRead s bs (ys ++ tail) v)
    (ht : turn u = rtuLength ys.length v) (hys : ys ≠ []) (hfit : bs.length + ys.length ≤ s.params.bufSize) :
    ∃ w, turns (ys.length + 1) u = rtuCheck w ∧ HasRead s (bs ++ ys) tail w := by
  have hpos := List.length_pos_iff.2 hys
  rw [h.rtuLength_eq hfit] at ht
  rw [turns_succ _ ht]
  exact (h.beginRead _).turns_body hsz rfl (by omega) hfit

/-- The bytes after a count byte or count word of value `n` are read to the end of the frame, once the turn of the
last count byte has made the length known (R212, R213). -/
theorem HasRead.turns_data {low high : Byte} {data : List Byte} {n : Nat} (hsz : s.params.bufSize < 2 ^ 17)
    (h : HasRead s bs (data ++ [low, high] ++ tail) v) (ht : turn u = rtuLength (n + 2) v) (hn : data.length = n)
    (hfit : bs.length + data.length + 2 ≤ s.params.bufSize) :
    ∃ w, turns (data.length + 3) u = rtuCheck w ∧ HasRead s (bs ++ data ++ [low, high]) tail w := by
  have hlen : (data ++ [low, high]).length = data.length + 2 := List.length_append
  rw [← hn, ← hlen] at ht
  rw [Nat.add_assoc, ← hlen] at hfit
  rw [← Nat.add_assoc data.length 2 1, ← hlen, List.append_assoc bs]
  exact h.turns_length hsz ht (by simp) hfit

end

/-- A body has the layout that the class of its function code gives it (R110, R212 to R217). -/
def LaidOut (k : LenClass) (body : List Byte) : Prop :=
  match k with
  | .unknown => False
  | .count8  => ∃ c data, body = c :: data ∧ data.length = c.toNat
  | .count16 => ∃ h l data, body = h :: l :: data ∧ data.length = 256 * h.toNat + l.toNat
  | .fixed6  => body.length = 4
  | .fixed3  => body.length = 1
  | .fixed8  => body.length = 6

section
variable {s u : State} {bs body tail : List Byte} {fc low high : Byte}

/-- From the function code on, the turns read a frame of a known class to its end (R210, R212 to R217, R223). -/
theorem HasRead.turns_class (hsz : s.params.bufSize < 2 ^ 17)
    (h : HasRead s bs (fc :: (body ++ [low, high] ++ tail)) u) (hq : u.seq = .rFc)
    (hfit : bs.length + body.length + 3 ≤ s.params.bufSize) (hbody : LaidOut (classIn s.params.fcTable fc) body) :
    ∃ w, turns (body.length + 3) u = rtuCheck w ∧ HasRead s (bs ++ [fc] ++ body ++ [low, high]) tail w := by
  have hroom : bs.length < s.params.bufSize := by omega
  have h' := h.received hroom hsz
  have ht := turn_functionCode hq h.rx (h.room hroom)
  have hl : lenClass fc (Machine.received fc (body ++ [low, high] ++ tail) u) = classIn s.params.fcTable fc := by
    rw [lenClass, h'.params]
  have hbs : (bs ++ [fc]).length = bs.length + 1 := List.length_append
  rw [rtuClass, hl] at ht
  cases hc : classIn s.params.fcTable fc <;> simp only [hc, LaidOut] at ht hbody
  case fixed6 | fixed3 | fixed8 => exact h'.turns_data hsz ht hbody (by omega)
  case count8 =>
    obtain ⟨c, data, rfl, hlen⟩ := hbody
    rw [List.length_cons] at hfit
    have h2 := h'.beginRead (.rCnt false)
    have hroom2 : (bs ++ [fc]).length < s.params.bufSize := by omega
    have ht2 := turn_count rfl h2.rx (h2.room hroom2)
    obtain ⟨w, hw, hread⟩ := (h2.received hroom2 hsz).turns_data hsz ht2 hlen (by simp; omega)
    exact ⟨w, (turns_succ _ ht).trans hw, by simpa using hread⟩
  case count16 =>
    obtain ⟨hi, lo, data, rfl, hlen⟩ := hbody
    rw [List.length_cons, List.length_cons] at hfit
    have h2 := h'.beginRead (.rCnt true)
    have hroom2 : (bs ++ [fc]).length < s.params.bufSize := by omega
    have ht2 := turn_count rfl h2.rx (h2.room hroom2)
    have h3 := (h2.received hroom2 hsz).beginRead (.rCnt2 hi)
    have hroom3 : (bs ++ [fc] ++ [hi]).length < s.params.bufSize := by simp; omega
    have ht3 := turn_countLow rfl h3.rx (h3.room hroom3)
    obtain ⟨w, hw, hread⟩ := (h3.received hroom3 hsz).turns_data hsz ht3 hlen (by simp; omega)
    exact ⟨w, (turns_succ _ ht).trans ((turns_succ _ ht2).trans hw), by simpa using hread⟩

/-- A complete frame for the configured unit with the right CRC is delivered (R210, R218, R221). -/
theorem HasRead.delivers (hsz : s.params.bufSize < 2 ^ 17) (hw : s.unitIdWritten = true)
    (h : HasRead s (s.cfg.unitId :: fc :: body ++ [low, high]) tail u)
    (hcrc : high ++ low = crc16Of (s.cfg.unitId :: fc :: body)) (hfit : body.length + 4 ≤ s.params.bufSize) :
    Answers (rtuCheck u) fun t =>
      EndsWith 0 0 s t ∧ t.rx = tail ∧ t.ilen = BitVec.ofNat 17 (body.length + 4) ∧
      t.res = { s.res with uid := s.cfg.unitId, fc := fc, len := BitVec.ofNat 17 body.length } ∧
      Holds .ibuf (s.cfg.unitId :: fc :: body ++ [low, high]) t := by
  have hilen : u.ilen.toNat = body.length + 4 := by simpa using h.ilen
  rw [rtuCheck_frame h.holds hilen (h.written.trans hw), if_pos hcrc, rtuDeliver, if_pos (by rw [h.cfg])]
  refine ⟨_, rfl, ?_, h.rx, ?_, ?_, h.holds⟩
  · simp [EndsWith, h.status]
  · apply BitVec.eq_of_toNat_eq
    rw [BitVec.toNat_ofNat, Nat.mod_eq_of_lt (hfit.trans_lt hsz)]
    exact hilen
  · rw [← h.res]
    rfl

end

/-- Settles O36: the turns read the frame byte by byte to its end, where it is checked and delivered. -/
theorem rtuReaderExtractsFrame : Obligations.RtuReaderExtractsFrame := by
  intro s fc body low high tail hw hfit hsz hbody hcrc hrx
  have h : HasRead s [] (s.cfg.unitId :: (fc :: (body ++ [low, high] ++ tail))) (beginRead .rUid { s with ilen := 0 }) :=
    ⟨(fun _ _ hk => nomatch hk), rfl, by simpa using hrx, rfl, rfl, rfl, rfl, rfl⟩
  have hroom : ([] : List Byte).length < s.params.bufSize := by simp; omega
  have ht := turn_unitId rfl h.rx (h.room hroom)
  obtain ⟨w, hturns, hread⟩ := ((h.received hroom hsz).beginRead .rFc).turns_class hsz rfl (by simp; omega) hbody
  obtain ⟨t, hend, hpost⟩ := hread.delivers hsz hw hcrc hfit
  exact ⟨_, rfl, t, ((turns_succ _ ht).trans hturns).trans hend, hpost⟩

end Sys2Proof.Machine

/-! ## The checksum operations

Each operation without a range is one update of its registers before `done`, so its frame holds by `rfl`. A range
operation that fits reads its bytes at the cost of free values alone; one that does not fit is the error entry. -/

namespace Sys2Proof.Machine

/-! ### Operations on one byte or on none -/

/-- Settles O1: the operation is one update of the accumulator before `done`. -/
theorem lrcInitClearsAccumulator : Obligations.LrcInitClearsAccumulator :=
  ⟨rfl, fun s => ⟨_, rfl, rfl, endsWith_ended 0 0 s, ⟨rfl, rfl⟩, rfl, sameRest_refl s⟩⟩

/-- Settles O2: the addition of bytes is that of their values modulo 256. -/
theorem lrcUpdateAddsByte : Obligations.LrcUpdateAddsByte :=
  ⟨rfl, fun s => ⟨_, rfl, BitVec.toNat_add .., endsWith_ended 0 0 s, ⟨rfl, rfl⟩, rfl, sameRest_refl s⟩⟩

/-- The negation of an accumulator value, on naturals (R132). -/
theorem lrcOf_eq_ofNat (acc : Byte) : lrcOf acc = BitVec.ofNat 8 ((256 - acc.toNat) % 256) := by
  apply BitVec.eq_of_toNat_eq
  simp [lrcOf]

/-- Settles O3: the operation writes the negation of the accumulator to `RES_LO` and then is done. -/
theorem lrcReadNegatesSum : Obligations.LrcReadNegatesSum := by
  refine ⟨rfl, fun s => ⟨_, rfl, ?_, endsWith_ended 0 0 s, sameSums_refl s, sameRest_refl s⟩⟩
  rw [← lrcOf_eq_ofNat]
  rfl

/-- Settles O5: the operation is one update of the CRC register before `done`. -/
theorem crcInitSetsOnes : Obligations.CrcInitSetsOnes :=
  ⟨rfl, fun s => ⟨_, rfl, rfl, rfl, endsWith_ended 0 0 s, rfl, rfl, sameRest_refl s⟩⟩

/-- Settles O6: the register takes the table step, which is the bitwise step. -/
theorem crcUpdateIsBitwise : Obligations.CrcUpdateIsBitwise :=
  ⟨rfl, fun s => ⟨_, rfl, crcStep_eq_crcBit s.crcLo s.crcHi s.op.byte, endsWith_ended 0 0 s, rfl, rfl,
    sameRest_refl s⟩⟩

/-- Settles O7: the operation writes the halves of the register to the results and then is done. -/
theorem crcReadReturnsRegister : Obligations.CrcReadReturnsRegister :=
  ⟨rfl, fun s => ⟨_, rfl, rfl, endsWith_ended 0 0 s, sameSums_refl s, sameRest_refl s⟩⟩

/-! ### Operations on a range -/

/-- A range that leaves its buffer (R134, R142). -/
theorem rangeFits_eq_false {s : State} (h : s.params.bufSize < s.op.off.toNat + s.op.len.toNat) :
    rangeFits s = false := by
  simpa [rangeFits] using h

/-- Reading a range changes only the count of free values. -/
theorem fetchRange_state (sp : Space) (s : State) :
    (fetchRange sp s).2 = { s with draws := (fetchRange sp s).2.draws } := fetchBytes_state ..

/-- The bytes read from a range agree with its written bytes (R56). -/
theorem readsAs_fetchRange (sp : Space) (s : State) :
    ReadsAs sp s.op.off.toNat s.op.len.toNat s (fetchRange sp s).1 := readsAs_fetchBytes ..

theorem exec_lrcRange_fits {s : State} (h : s.op.off.toNat + s.op.len.toNat ≤ s.params.bufSize) :
    exec .lrcRange s = lrcRangeDone (fetchRange (selected s) s).1 (fetchRange (selected s) s).2 :=
  if_pos ((rangeFits_iff s).2 h)

theorem exec_lrcRange_unfit {s : State} (h : s.params.bufSize < s.op.off.toNat + s.op.len.toNat) :
    exec .lrcRange s = raise .badOperand 0 s := by
  simp [exec, execLrcRange, rangeFits_eq_false h]

theorem exec_crcRange_fits {s : State} (h : s.op.off.toNat + s.op.len.toNat ≤ s.params.bufSize) :
    exec .crcRange s = crcRangeDone (fetchRange (selected s) s).1 (fetchRange (selected s) s).2 :=
  if_pos ((rangeFits_iff s).2 h)

theorem exec_crcRange_unfit {s : State} (h : s.params.bufSize < s.op.off.toNat + s.op.len.toNat) :
    exec .crcRange s = raise .badOperand 0 s := by
  simp [exec, execCrcRange, rangeFits_eq_false h]

/-- Settles O4: the accumulator is the sum of the bytes read and `RES_LO` its negation, or the operation is the error
entry. -/
theorem lrcRangeSumsRange : Obligations.LrcRangeSumsRange := by
  refine ⟨rfl, fun s => ⟨fun h => ⟨_, readsAs_fetchRange (selected s) s, ?_⟩, fun h => ?_⟩⟩
  · rw [Runs, exec_lrcRange_fits h, fetchRange_state]
    refine ⟨_, rfl, sumBytes_toNat _, ?_, endsWith_ended 0 0 s, ⟨rfl, rfl⟩, sameRest_refl s⟩
    rw [← lrcOf_sumBytes]
    rfl
  · rw [Runs, exec_lrcRange_unfit h]
    exact raise_reports .badOperand 0 s

/-- Settles O8: the register is the table-driven CRC of the bytes read, which is the bitwise CRC16, or the operation is
the error entry. -/
theorem crcRangeIsBitwise : Obligations.CrcRangeIsBitwise := by
  refine ⟨rfl, fun s => ⟨fun h => ⟨_, readsAs_fetchRange (selected s) s, ?_⟩, fun h => ?_⟩⟩
  · rw [Runs, exec_crcRange_fits h, fetchRange_state]
    exact ⟨_, rfl, crcBytes_eq_crc16Of _, rfl, endsWith_ended 0 0 s, rfl, sameRest_refl s⟩
  · rw [Runs, exec_crcRange_unfit h]
    exact raise_reports .badOperand 0 s

/-! ### The tables, and the residues -/

/-- Settles O9: by the entries of the tables and the linearity of the bitwise step. -/
theorem tableStepIsBitwise : Obligations.TableStepIsBitwise := ⟨tableAt_eq_crcBit, crcStep_eq_crcBit⟩

/-- The sum of a byte sequence and its LRC8 is zero (R146). -/
theorem sumBytes_append_lrc (bs : List Byte) : sumBytes (bs ++ [lrcOf (sumBytes bs)]) = 0 := by
  have hsnoc (b : Byte) : sumBytes (bs ++ [b]) = sumBytes bs + b := List.foldl_concat ..
  rw [hsnoc]
  exact BitVec.add_right_neg _

/-- A step on the register's own low half selects entry 0, which is zero: the high half moves down (R138). -/
theorem crcStep_low (lo hi : Byte) : crcStep (lo, hi) lo = (hi, 0) := by
  have hlo : tableAt tblLo 0#8 = 0#8 := rfl
  have hhi : tableAt tblHi 0#8 = 0#8 := rfl
  simp [crcStep, hlo, hhi]

/-- Settles O10: the sum and its negation cancel; each of the two CRC bytes meets itself as the low half, and moves the
half above it down. -/
theorem checksumResidues : Obligations.ChecksumResidues := by
  refine ⟨fun bs => ⟨?_, ?_⟩, fun bs => ?_⟩
  · rw [← sumBytes_toNat, sumBytes_append_lrc]
    rfl
  · rw [sumBytes_append_lrc]
    rfl
  · calc crcBytes (bs ++ [(crcBytes bs).1, (crcBytes bs).2])
        = crcStep (crcStep (crcBytes bs) (crcBytes bs).1) (crcBytes bs).2 := List.foldl_append ..
      _ = crcStep ((crcBytes bs).2, 0) (crcBytes bs).2 := by rw [crcStep_low]
      _ = (0, 0) := crcStep_low ..

end Sys2Proof.Machine

/-! ## The adapter's operations

What a flush and an echo discard do over several turns is one updated state (`turns_xFlush`, `turns_echo`); `Silent` is
the state of a timed read on a silent line, which `Until` carries step by step to its bound; `Untimed` says of a result
that it is no `Timeout`. -/

namespace Sys2Proof.Machine

/-- Settles O58: by the cases of a step; a sleep begins `POLL_MS` ahead, and a tick never passes a due wake time. -/
theorem sleepIsBounded : Obligations.SleepIsBounded := fun _ _ h hst => by
  obtain ⟨_, hc⟩ := step_cases hst
  exact hc.sleepOk h

/-! ### Operations on registers alone -/

/-- Settles O11: the operation writes the count and then is done. -/
theorem rxAvailCountsQueue : Obligations.RxAvailCountsQueue :=
  ⟨rfl, fun s => ⟨_, rfl, rfl, endsWith_ended 0 0 s, sameSums_refl s, sameRest_refl s⟩⟩

/-- The character of a nibble, on naturals (R156). -/
theorem hexChr_toNat : ∀ v : BitVec 4,
    (hexChr v).toNat = if v.toNat ≤ 9 then 0x30 + v.toNat else 0x41 + (v.toNat - 10) := by decide

theorem hexEncHi_toNat (b : Byte) : (hexEncHi b).toNat =
    if b.toNat / 16 ≤ 9 then 0x30 + b.toNat / 16 else 0x41 + (b.toNat / 16 - 10) := by
  have hn : (b.extractLsb' 4 4).toNat = b.toNat / 16 := by
    rw [BitVec.extractLsb'_toNat, Nat.shiftRight_eq_div_pow]
    omega
  rw [hexEncHi, hexChr_toNat, hn]

theorem hexEncLo_toNat (b : Byte) : (hexEncLo b).toNat =
    if b.toNat % 16 ≤ 9 then 0x30 + b.toNat % 16 else 0x41 + (b.toNat % 16 - 10) := by
  have hn : (b.extractLsb' 0 4).toNat = b.toNat % 16 := by simp
  rw [hexEncLo, hexChr_toNat, hn]

/-- Settles O19: the operation writes the two characters of `OP_BYTE` and then is done. -/
theorem hexEncReturnsCharacters : Obligations.HexEncReturnsCharacters :=
  ⟨rfl, fun s => ⟨_, rfl, hexEncHi_toNat _, hexEncLo_toNat _, rfl, endsWith_ended 0 0 s, sameSums_refl s,
    sameRest_refl s⟩⟩

/-- Settles O20: each character is checked in turn before the pair is decoded. -/
theorem hexDecDecodesPair : Obligations.HexDecDecodesPair := by
  refine ⟨rfl, fun s => ⟨fun h1 h2 => ?_, fun h1 => ?_, fun h1 h2 => ?_⟩⟩
  · have hx : exec .hexDec s = complete { s with res.lo := hexDecPair s.op.byte s.op.byte2 } := by
      simp [exec, execHexDec, h1, h2]
    exact ⟨_, hx, rfl, endsWith_ended 0 0 s, sameSums_refl s, sameRest_refl s⟩
  · have hx : exec .hexDec s = badHex s.op.byte s := by simp [exec, execHexDec, h1]
    rw [Runs, hx]
    exact raise_reports .badHex _ s
  · have hx : exec .hexDec s = badHex s.op.byte2 s := by simp [exec, execHexDec, h1, h2]
    rw [Runs, hx]
    exact raise_reports .badHex _ s

/-! ### Writes to the line -/

/-- Beside the queues, the result registers and the end of the operation everything is as before. -/
def DoneBesideQueues (s t : State) : Prop :=
  EndsWith 0 0 s t ∧ SameSums s t ∧ SameHostSide s t ∧ SameLengths s t ∧ SameBuffer .obuf s t ∧ SameBuffer .ibuf s t ∧
  t.time = s.time ∧ SameEnv s t

/-- An operation that has worked on the queues, the result registers and the free values alone is done. -/
theorem doneBesideQueues_ended (rx tx : List Byte) (res : ResRegs) (draws : Nat) (s : State) :
    DoneBesideQueues s (ended 0 0 { s with rx := rx, tx := tx, res := res, draws := draws }) :=
  ⟨endsWith_ended 0 0 s, sameSums_refl s, sameHostSide_refl s, ⟨rfl, rfl⟩, fun _ => rfl, fun _ => rfl, rfl, rfl, rfl⟩

theorem exec_txWrite_fits {s : State} (h : s.op.off.toNat + s.op.len.toNat ≤ s.params.bufSize) :
    exec .txWrite s = pushDone (fetchRange .obuf s).1 (fetchRange .obuf s).2 := if_pos ((rangeFits_iff s).2 h)

theorem exec_txWrite_unfit {s : State} (h : s.params.bufSize < s.op.off.toNat + s.op.len.toNat) :
    exec .txWrite s = raise .badOperand 0 s := by
  simp [exec, execTxWrite, rangeFits_eq_false h]

theorem exec_ascTxWrite_fits {s : State} (h : s.op.off.toNat + s.op.len.toNat ≤ s.params.bufSize) :
    exec .ascTxWrite s = pushDone (hexPairs (fetchRange .obuf s).1) (fetchRange .obuf s).2 :=
  if_pos ((rangeFits_iff s).2 h)

theorem exec_ascTxWrite_unfit {s : State} (h : s.params.bufSize < s.op.off.toNat + s.op.len.toNat) :
    exec .ascTxWrite s = raise .badOperand 0 s := by
  simp [exec, execAscTxWrite, rangeFits_eq_false h]

/-- What is pushed after a read of the range is appended to TX and counted, and the operation is done (R152). -/
theorem pushDone_answers (bs : List Byte) (s : State) : Answers (pushDone bs (fetchRange .obuf s).2) fun t =>
    t.tx = s.tx ++ bs ∧ t.rx = s.rx ∧ t.res = { s.res with cnt := BitVec.ofNat 32 bs.length } ∧
    DoneBesideQueues s t := by
  rw [fetchRange_state]
  exact ⟨_, rfl, rfl, rfl, rfl, doneBesideQueues_ended ..⟩

theorem fetchRange_length (sp : Space) (s : State) : (fetchRange sp s).1.length = s.op.len.toNat :=
  fetchBytes_length ..

/-- Settles O14: the bytes read from the range are pushed, or the operation is the error entry. -/
theorem txWritePushesRange : Obligations.TxWritePushesRange := by
  refine ⟨rfl, fun s => ⟨fun h => ⟨_, readsAs_fetchRange .obuf s, ?_⟩, fun h => ?_⟩⟩
  · rw [Runs, exec_txWrite_fits h]
    have hp := pushDone_answers (fetchRange .obuf s).1 s
    rwa [fetchRange_length] at hp
  · rw [Runs, exec_txWrite_unfit h]
    exact raise_reports .badOperand 0 s

/-- Settles O15: the hex pairs of the bytes read from the range are pushed, or the operation is the error entry. -/
theorem ascTxWritePushesHexPairs : Obligations.AscTxWritePushesHexPairs := by
  refine ⟨rfl, fun s => ⟨fun h => ⟨_, readsAs_fetchRange .obuf s, ?_⟩, fun h => ?_⟩⟩
  · rw [Runs, exec_ascTxWrite_fits h]
    have hp := pushDone_answers (hexPairs (fetchRange .obuf s).1) s
    rw [hexPairs_length, fetchRange_length] at hp
    rwa [← hexPairs_eq_hexText]
  · rw [Runs, exec_ascTxWrite_unfit h]
    exact raise_reports .badOperand 0 s

/-! ### The flush -/

section
variable {s : State} {wait : Nat → Seq} {k : Nat → State → Result} {n : Nat}

/-- The last turn of a flush goes on with the count (R159). -/
theorem flushTurn_stops
    (h : s.rx = [] ∨ s.params.flushMax ≤ n ∨ s.params.flushWindowMs ≤ (s.time.now - s.time.t0Phase).toNat) :
    flushTurn wait k n s = k n s := by
  rw [flushTurn, if_pos ((flushStops_iff n s).2 h)]

/-- Any other turn of a flush removes one byte (R159). -/
theorem flushTurn_pops {b : Byte} {rest : List Byte} (hrx : s.rx = b :: rest) (hn : n < s.params.flushMax)
    (hw : (s.time.now - s.time.t0Phase).toNat < s.params.flushWindowMs) :
    flushTurn wait k n s = .next { popped rest s with seq := wait (n + 1) } := by
  have hs : ¬ flushStops n s = true := by
    rw [flushStops_iff, hrx]
    rintro (h | h | h)
    · cases h
    · omega
    · omega
  rw [flushTurn, if_neg hs, hrx, List.tail_cons]

theorem turn_xFlush (hq : s.seq = .xFlush n) :
    turn s = flushTurn .xFlush (fun k t => complete { t with res.cnt := BitVec.ofNat 32 k }) n s := by
  simp only [turn, hq]

theorem turn_wFlush (hq : s.seq = .wFlush n) : turn s = flushTurn .wFlush rtuFlushed n s := by
  simp only [turn, hq]

/-- While its window lasts and no other agent acts, `RX_FLUSH` removes what is in RX up to `FLUSH_MAX` bytes, and is
done with the count (R159, R166). -/
theorem turns_xFlush {m : Nat} (hq : s.seq = .xFlush n) (hm : m = min s.rx.length (s.params.flushMax - n))
    (hw : (s.time.now - s.time.t0Phase).toNat < s.params.flushWindowMs) :
    turns (m + 1) s = complete { s with rx := s.rx.drop m, res.cnt := BitVec.ofNat 32 (n + m) } := by
  induction m generalizing s n with
  | zero =>
    have hstop : s.rx = [] ∨ s.params.flushMax ≤ n := by
      rw [← List.length_eq_zero_iff]
      omega
    rw [turns_one, turn_xFlush hq, flushTurn_stops (hstop.imp_right .inl)]
    rfl
  | succ m ih =>
    cases hrx : s.rx with
    | nil => simp [hrx] at hm
    | cons b rest =>
      rw [hrx, List.length_cons] at hm
      have ht : turn s = .next { popped rest s with seq := .xFlush (n + 1) } :=
        (turn_xFlush hq).trans (flushTurn_pops hrx (by omega) hw)
      have hrec := ih (s := { popped rest s with seq := .xFlush (n + 1) }) rfl
        (show m = min rest.length (s.params.flushMax - (n + 1)) by omega) hw
      rw [turns_succ _ ht, hrec, Nat.add_right_comm]
      rfl

end

/-- Settles O16: with no time passing the window lasts, and the turns are those of the flush. -/
theorem rxFlushDrainsQueue : Obligations.RxFlushDrainsQueue := by
  refine ⟨rfl, fun s => ⟨beginPhase (.xFlush 0) s, rfl, ⟨rfl, rfl, rfl, rfl⟩, rfl, rfl, ⟨rfl, rfl⟩, sameSums_refl s,
    sameHostSide_refl s, ⟨rfl, rfl⟩, fun _ => rfl, fun _ => rfl, ⟨rfl, rfl⟩, fun hw => ?_⟩⟩
  have ht := turns_xFlush (s := beginPhase (.xFlush 0) s) rfl rfl (by simpa using Nat.zero_lt_of_lt hw)
  rw [Nat.zero_add] at ht
  exact ⟨_, ht, rfl, rfl, rfl, doneBesideQueues_ended _ _ _ _ (beginPhase (.xFlush 0) s)⟩

/-- Settles O32: a turn of the flush removes a byte, and its last turn reads the frame back and pushes it. -/
theorem flushThenTransmit : Obligations.FlushThenTransmit := by
  refine ⟨fun s n b rest hq hrx hn hw => ?_, fun s n hq hstop => ?_⟩
  · exact ⟨_, (turn_wFlush hq).trans (flushTurn_pops hrx hn hw), rfl⟩
  · have ht : turn s = rtuTransmit { s with res.cnt := BitVec.ofNat 32 n } :=
      (turn_wFlush hq).trans (flushTurn_stops hstop)
    have hb : Builds s { s with res.cnt := BitVec.ofNat 32 n } := { Builds.refl s with }
    obtain ⟨t, sent, hnext, hsent, htx, hecho, hside, hframe⟩ := rtuTransmit_answers hb
    exact ⟨t, ht.trans hnext, sent, hsent, htx, hside.rx, hframe.res, hecho, hframe.sums, hside.host,
      ⟨hframe.olen, hside.ilen⟩, hframe.byteAt, hside.ibuf, hside.env⟩

/-! ### The echo discard -/

section
variable {s : State} {got want : Nat}

/-- Before the whole echo is discarded, a turn with a byte in RX removes it (R160). -/
theorem echoTurn_pops {wait : Nat → Nat → Seq} {b : Byte} {rest : List Byte} (hlt : got < want)
    (hrx : s.rx = b :: rest) : echoTurn wait got want s = .next { popped rest s with seq := wait (got + 1) want } := by
  rw [echoTurn, if_neg hlt.ne, hrx]

theorem turn_xEcho_pops {b : Byte} {rest : List Byte} (hq : s.seq = .xEcho got want) (hlt : got < want)
    (hrx : s.rx = b :: rest) : turn s = .next { popped rest s with seq := .xEcho (got + 1) want } := by
  simp only [turn, hq]
  exact echoTurn_pops hlt hrx

theorem turn_wEcho_pops {b : Byte} {rest : List Byte} (hq : s.seq = .wEcho got want) (hlt : got < want)
    (hrx : s.rx = b :: rest) : turn s = .next { popped rest s with seq := .wEcho (got + 1) want } := by
  simp only [turn, hq]
  exact echoTurn_pops hlt hrx

/-- With the whole echo discarded the operation is done with the count and no flag (R160). -/
theorem turn_echo_done (hq : s.seq = .xEcho want want ∨ s.seq = .wEcho want want) :
    turn s = complete { s with res.echoCnt := BitVec.ofNat 32 want } := by
  obtain ⟨wait, ht⟩ := turn_echo hq
  rw [ht, echoTurn, if_pos rfl, echoFinish, if_neg (lt_irrefl want)]

/-- When the `m` bytes still to discard are in RX, and no other agent acts, an echo discard removes exactly those and is
done with the count and no flag (R160). -/
theorem turns_echo {m : Nat} (hq : s.seq = .xEcho got want ∨ s.seq = .wEcho got want) (hm : got + m = want)
    (hrx : m ≤ s.rx.length) :
    turns (m + 1) s = complete { s with rx := s.rx.drop m, res.echoCnt := BitVec.ofNat 32 want } := by
  induction m generalizing s got with
  | zero =>
    obtain rfl : got = want := hm
    rw [turns_one, turn_echo_done hq]
    rfl
  | succ m ih =>
    have hlt : got < want := by omega
    cases h : s.rx with
    | nil => simp [h] at hrx
    | cons b rest =>
      have hrest : m ≤ rest.length := by simpa [h] using hrx
      have hm' : got + 1 + m = want := by omega
      rcases hq with hq | hq
      · rw [turns_succ _ (turn_xEcho_pops hq hlt h), ih (.inl rfl) hm' hrest]
        rfl
      · rw [turns_succ _ (turn_wEcho_pops hq hlt h), ih (.inr rfl) hm' hrest]
        rfl

end

/-- Settles O17: a turn with bytes to come removes one, and the turns together remove them all. -/
theorem echoDiscardRemovesEcho : Obligations.EchoDiscardRemovesEcho := by
  refine ⟨rfl, fun s => ?_, fun s got want =>
    ⟨fun b rest hlt hrx => ⟨fun hq => ?_, fun hq => ?_⟩, fun hq hle hrx => ?_⟩⟩
  · refine ⟨beginPhase (.xEcho 0 s.op.len.toNat) s, rfl, ⟨rfl, rfl, rfl, rfl⟩, rfl, rfl, ⟨rfl, rfl⟩, sameSums_refl s,
      sameHostSide_refl s, ⟨rfl, rfl⟩, fun _ => rfl, fun _ => rfl, ⟨rfl, rfl⟩, fun hrx => ?_⟩
    exact ⟨_, turns_echo (.inl rfl) (Nat.zero_add _) hrx, rfl, rfl, rfl,
      doneBesideQueues_ended _ _ _ _ (beginPhase (.xEcho 0 s.op.len.toNat) s)⟩
  · exact ⟨_, turn_xEcho_pops hq hlt hrx, rfl⟩
  · exact ⟨_, turn_wEcho_pops hq hlt hrx, rfl⟩
  · exact ⟨_, turns_echo hq (Nat.add_sub_cancel' hle) hrx, rfl, rfl, rfl, doneBesideQueues_ended ..⟩

/-! ### A read on a silent line -/

/-- `n` steps lead from `u` to a state with `P`, and each of the states before it waits in `q`. -/
def Until (q : Seq) (P : State → Prop) (n : Nat) (u : State) : Prop :=
  Answers (steps n u) P ∧ ∀ k, k < n → Answers (steps k u) fun v => v.seq = q

section
variable {q : Seq} {P : State → Prop} {u v : State}

theorem until_zero (h : P u) : Until q P 0 u := ⟨⟨u, rfl, h⟩, nofun⟩

theorem Until.step {n : Nat} (h : Until q P n v) (hs : step u = .next v) (hq : u.seq = q) : Until q P (n + 1) u := by
  refine ⟨?_, fun k hk => ?_⟩
  · rw [steps_succ n hs]
    exact h.1
  · cases k with
    | zero => exact ⟨u, rfl, hq⟩
    | succ k =>
      rw [steps_succ k hs]
      exact h.2 k (Nat.lt_of_succ_lt_succ hk)

end

/-- `u` is `d` milliseconds into an `RX_READ` issued in `s` on a silent line with no move to come, and the read's next
turn is due in `w` milliseconds (R153, R154). -/
structure Silent (s : State) (d w : Nat) (u : State) : Prop where
  seq    : u.seq = .xRead
  rx     : u.rx = []
  moves  : u.moves = []
  cfg    : u.cfg = s.cfg
  res    : u.res = s.res
  status : u.status = s.status
  t0Read : u.time.t0Read = s.time.now
  now    : u.time.now = s.time.now + BitVec.ofNat 32 d
  wake   : u.sleeping = true → u.time.tNext = u.time.now + BitVec.ofNat 32 w
  asleep : w ≠ 0 → u.sleeping = true

/-- `u` is `d` milliseconds after `s`, and an `RX_READ` issued in `s` has ended with `Timeout` and no result. -/
def TimedOut (s : State) (d : Nat) (u : State) : Prop :=
  EndsWith 1 0 s u ∧ u.res = s.res ∧ u.rx = [] ∧ u.time.now = s.time.now + BitVec.ofNat 32 d

section
variable {s u : State} {d w : Nat}

theorem silent_beginRead (hrx : s.rx = []) (hm : s.moves = []) : Silent s 0 0 (beginRead .xRead s) where
  seq := rfl
  rx := hrx
  moves := hm
  cfg := rfl
  res := rfl
  status := rfl
  t0Read := rfl
  now := by simp
  wake := nofun
  asleep := fun h => absurd rfl h

namespace Silent

/-- Before its wake time a sleeping read lets a millisecond pass (R153). -/
theorem step_tick (h : Silent s d (w + 1) u) (hw : w + 1 < 2 ^ 32) : step u = .next (tick u) := by
  have hz := h.asleep (Nat.succ_ne_zero w)
  have hne : u.time.now ≠ u.time.tNext := by
    rw [h.wake hz]
    bv_omega
  have hr : ¬ runnable u = true := by simp [runnable, hz, hne]
  rw [step_nil h.moves, advance, if_neg hr]

theorem tick (h : Silent s d (w + 1) u) : Silent s (d + 1) w (tick u) :=
  { h with
    now := by
      rw [tick_time, h.now, BitVec.ofNat_add, ← BitVec.add_assoc]
      rfl
    wake := fun hz => by
      rw [tick_time, h.wake hz, Nat.add_comm w, BitVec.ofNat_add, ← BitVec.add_assoc]
      rfl
    asleep := fun _ => h.asleep (Nat.succ_ne_zero w) }

/-- At its wake time the read takes its turn (R153, R154). -/
theorem step_turn (h : Silent s d 0 u) : step u = readTurn rxReadByte u := by
  have hz : u.sleeping = true → u.time.now = u.time.tNext := fun hz => by simp [h.wake hz]
  rw [step_of_awake h.moves (by simp [h.seq]) hz]
  simp only [turn, h.seq]

/-- Up to the poll that ends it, the time a read has taken does not wrap (R47). -/
theorem elapsed_eq (h : Silent s d w u) (hd : d < s.cfg.readTimeout.toNat + 10) : elapsed u.time.t0Read u = d := by
  have hT := s.cfg.readTimeout.isLt
  rw [elapsed, h.t0Read, h.now, BitVec.add_comm, BitVec.add_sub_cancel]
  exact Nat.mod_eq_of_lt (by omega)

/-- A poll at or past the bound ends the operation (R154). -/
theorem step_timeout (h : Silent s d 0 u) (hge : s.cfg.readTimeout.toNat ≤ d) (hlt : d < s.cfg.readTimeout.toNat + 10) :
    step u = .next (ended 1 0 u) := by
  rw [h.step_turn]
  exact readTurn_timeout h.rx (by rwa [h.elapsed_eq hlt, h.cfg])

/-- A poll before the bound sleeps for `POLL_MS` (R153, R154). -/
theorem step_sleep (h : Silent s d 0 u) (hlt : d < s.cfg.readTimeout.toNat) : step u = .next (Machine.sleep u) := by
  rw [h.step_turn]
  exact readTurn_sleep h.rx (by rwa [h.elapsed_eq (by omega), h.cfg])

theorem sleep (h : Silent s d 0 u) : Silent s d 10 (sleep u) :=
  { h with
    wake := fun _ => rfl
    asleep := fun _ => rfl }

theorem timedOut (h : Silent s d w u) : TimedOut s d (ended 1 0 u) :=
  ⟨by simp [EndsWith, h.status], h.res, h.rx, h.now⟩

/-- A sleeping read wakes. -/
theorem until_wake {P : State → Prop} (h : Silent s d w u) (hw : w < 2 ^ 32)
    (hP : ∀ v, Silent s (d + w) 0 v → ∃ n, Until .xRead P n v) : ∃ n, Until .xRead P n u := by
  induction w generalizing d u with
  | zero => exact hP u h
  | succ w ih =>
    obtain ⟨n, hn⟩ := ih h.tick (by omega) (by rwa [Nat.add_assoc, Nat.add_comm 1])
    exact ⟨n + 1, hn.step (h.step_tick hw) h.seq⟩

/-- A due read polls every 10 milliseconds, and its `m`-th poll from now is the first at or past its bound (R154). -/
theorem until_timedOut {m : Nat} (h : Silent s d 0 u) (hge : s.cfg.readTimeout.toNat ≤ d + 10 * m)
    (hlt : d + 10 * m < s.cfg.readTimeout.toNat + 10) : ∃ n, Until .xRead (TimedOut s (d + 10 * m)) n u := by
  induction m generalizing d u with
  | zero => exact ⟨1, (until_zero h.timedOut).step (h.step_timeout hge hlt) h.seq⟩
  | succ m ih =>
    have hm : d + 10 * (m + 1) = d + 10 + 10 * m := by omega
    rw [hm] at hge hlt ⊢
    obtain ⟨n, hn⟩ := h.sleep.until_wake (by decide) fun v hv => ih hv hge hlt
    exact ⟨n + 1, hn.step (h.step_sleep (by omega)) h.seq⟩

end Silent

end

/-- Settles O48: the read polls at once and then every 10 milliseconds, up to the first poll at or past its bound. -/
theorem silentReadTimesOut : Obligations.SilentReadTimesOut := by
  intro s hrx hm
  obtain ⟨n, hn⟩ := (silent_beginRead hrx hm).until_timedOut (m := (s.cfg.readTimeout.toNat + 9) / 10)
    (by omega) (by omega)
  rw [Nat.zero_add, Nat.mul_comm] at hn
  exact ⟨_, rfl, n, hn⟩

/-! ### No `Timeout` while a byte is in RX -/

/-- The result is not that the operation has ended with `Timeout`. -/
def Untimed : Result → Prop
  | .next t               => t.seq = .idle → statusErr t.status ≠ 1
  | .fault _ | .refused _ => True

section
variable (u : State)

theorem untimed_ite {c : Prop} [Decidable c] {a b : Result} (ha : Untimed a) (hb : Untimed b) :
    Untimed (if c then a else b) := by
  split
  · exact ha
  · exact hb

/-- An operation that waits has not ended. -/
theorem untimed_waits {t : State} (hq : t.seq ≠ .idle) : Untimed (.next t) := fun h => absurd h hq

theorem untimed_complete : Untimed (complete u) := fun _ => by simp

theorem untimed_raise {e : Err} (he : errCode e ≠ 1) (info : Half) : Untimed (raise e info u) := fun _ => by simpa

theorem untimed_badHex (c : Byte) : Untimed (badHex c u) := untimed_raise u (by decide) _

theorem untimed_tokenFirst (c : Byte) : Untimed (tokenFirst c u) :=
  untimed_ite (untimed_complete _) (untimed_ite (untimed_waits nofun) (untimed_ite (untimed_waits nofun)
    (untimed_badHex u c)))

theorem untimed_tokenSecond (first c : Byte) : Untimed (tokenSecond first c u) :=
  untimed_ite (untimed_ite (untimed_complete _) (untimed_badHex u c))
    (untimed_ite (untimed_complete _) (untimed_badHex u c))

theorem untimed_ascSeek : Untimed (ascSeek u) := untimed_waits nofun

theorem untimed_ascAccum : Untimed (ascAccum u) := untimed_waits nofun

theorem untimed_ascByte (b : Byte) : Untimed (ascByte b u) :=
  untimed_ite (untimed_ascSeek u) (untimed_ite (untimed_waits nofun) trivial)

theorem untimed_ascFilter : Untimed (ascFilter u) := untimed_ite (untimed_complete _) (untimed_ascSeek _)

theorem untimed_ascCheck : Untimed (ascCheck u) :=
  untimed_ite (untimed_ascSeek u) (untimed_ite trivial (untimed_ite (untimed_ascFilter _) (untimed_ascSeek _)))

theorem untimed_ascHigh (c : Byte) : Untimed (ascHigh c u) :=
  untimed_ite (untimed_ascAccum u) (untimed_ite (untimed_waits nofun) (untimed_ite (untimed_waits nofun)
    (untimed_ascSeek u)))

theorem untimed_ascLow (high c : Byte) : Untimed (ascLow high c u) :=
  untimed_ite (untimed_ascAccum u) (untimed_ite (untimed_ascByte u _) (untimed_ascSeek u))

theorem untimed_ascEnd (c : Byte) : Untimed (ascEnd c u) :=
  untimed_ite (untimed_ascAccum u) (untimed_ite (untimed_ascCheck u) (untimed_ascSeek u))

/-- A character that has been taken (R92, R158, R185). -/
theorem untimed_character (c : Byte) : Untimed (character c u) := by
  rw [character_eq]
  unfold takeCharacter
  cases u.seq with
  | xTok1 => exact untimed_tokenFirst u c
  | xTok2 first => exact untimed_tokenSecond u first c
  | aSeek => exact untimed_ite (untimed_ascAccum u) (untimed_ascSeek u)
  | aHi => exact untimed_ascHigh u c
  | aLo high => exact untimed_ascLow u high c
  | aLf => exact untimed_ascEnd u c
  | _ => trivial

theorem untimed_rtuLength (rem : Nat) : Untimed (rtuLength rem u) :=
  untimed_ite (untimed_waits nofun) (untimed_raise u (by decide) _)

theorem untimed_rtuClass (f : Byte) : Untimed (rtuClass f u) := by
  unfold rtuClass
  cases lenClass f u with
  | unknown => exact untimed_raise u (by decide) _
  | count8 | count16 => exact untimed_waits nofun
  | fixed6 | fixed3 | fixed8 => exact untimed_rtuLength u _

theorem untimed_rtuVerify (low high : Byte) (d : Nat) : Untimed (rtuVerify low high d u) :=
  untimed_ite (untimed_ite (untimed_complete _) (untimed_waits nofun)) (untimed_raise u (by decide) _)

theorem untimed_append (b : Byte) {k : State → Result} (hk : ∀ v, Untimed (k v)) : Untimed (append b k u) :=
  untimed_ite (hk _) trivial

/-- A function code that has been taken (R110). -/
theorem untimed_functionCode (f : Byte) : Untimed (functionCode f u) := by
  rw [functionCode_eq]
  exact untimed_ite (untimed_append u f fun v => untimed_rtuClass v f) trivial

theorem untimed_rtuCount (wide : Bool) (c : Byte) : Untimed (rtuCount wide c u) :=
  untimed_append u c fun v => untimed_ite (untimed_waits nofun) (untimed_rtuLength v _)

theorem untimed_rtuBodyByte (more : Nat) (b : Byte) : Untimed (rtuBodyByte more b u) :=
  untimed_append u b fun v => by
    cases more with
    | zero => exact untimed_rtuVerify ..
    | succ n => exact untimed_waits nofun

theorem untimed_rtuFlushed (n : Nat) : Untimed (rtuFlushed n u) :=
  untimed_ite (untimed_waits nofun) (untimed_complete _)

theorem untimed_flushTurn {wait : Nat → Seq} {k : Nat → State → Result} {n : Nat} (hw : wait (n + 1) ≠ .idle)
    (hk : Untimed (k n u)) : Untimed (flushTurn wait k n u) := untimed_ite hk (untimed_waits hw)

theorem untimed_echoFinish (got want : Nat) : Untimed (echoFinish got want u) :=
  untimed_ite (untimed_complete _) (untimed_complete _)

end

section
variable {s : State} (hrx : s.rx ≠ [])
include hrx

/-- A read that finds a byte goes on with it, whatever its bound (R154). -/
theorem untimed_readTurn {k : Byte → State → Result} (hk : ∀ b u, Untimed (k b u)) : Untimed (readTurn k s) := by
  obtain ⟨b, rest, h⟩ := List.exists_cons_of_ne_nil hrx
  rw [readTurn_cons h]
  exact hk b _

theorem untimed_readTurnA : Untimed (readTurnA character s) :=
  untimed_ite (untimed_raise s (by decide) _) (untimed_readTurn hrx fun b u => untimed_character u b)

theorem untimed_echoTurn {wait : Nat → Nat → Seq} {got want : Nat} (hw : wait (got + 1) want ≠ .idle) :
    Untimed (echoTurn wait got want s) := by
  obtain ⟨b, rest, h⟩ := List.exists_cons_of_ne_nil hrx
  refine untimed_ite (untimed_echoFinish s got want) ?_
  rw [h]
  exact untimed_waits hw

/-- With a byte in RX no turn of a running operation is a `Timeout` (R154). -/
theorem untimed_turn (hi : s.seq ≠ .idle) : Untimed (turn s) := by
  unfold turn
  cases h : s.seq with
  | idle => exact absurd h hi
  | exec => trivial
  | xRead => exact untimed_readTurn hrx fun _ _ => untimed_complete _
  | xTok1 | xTok2 => exact untimed_readTurn hrx fun b u => untimed_character u b
  | aSeek | aHi | aLo | aLf => exact untimed_readTurnA hrx
  | rUid => exact untimed_readTurn hrx fun b u => untimed_append u b fun _ => untimed_waits nofun
  | rFc => exact untimed_readTurn hrx fun b u => untimed_functionCode u b
  | rCnt wide => exact untimed_readTurn hrx fun b u => untimed_rtuCount u wide b
  | rCnt2 high => exact untimed_readTurn hrx fun b u => untimed_append u b fun v => untimed_rtuLength v _
  | rBody more => exact untimed_readTurn hrx fun b u => untimed_rtuBodyByte u more b
  | xFlush n => exact untimed_flushTurn s nofun (untimed_complete _)
  | wFlush n => exact untimed_flushTurn s nofun (untimed_rtuFlushed s n)
  | xEcho | wEcho => exact untimed_echoTurn hrx nofun

end

/-- Settles O47: a read looks at RX before it looks at its bound, and nothing else reports `Timeout`. -/
theorem noTimeoutWhileByteAvailable : Obligations.NoTimeoutWhileByteAvailable := by
  rintro s t info hi hrx ht ⟨herr, -, -, -, -, -, hq⟩
  have hu := untimed_turn hrx hi
  rw [ht] at hu
  exact hu hq herr

end Sys2Proof.Machine

/-! ## Reading an ASCII frame

`ascCheck_frame` says what the reader makes of a complete frame, and `HasRead` what has been read of one: one turn takes
the start token, two take the characters of a byte, and two the end token. -/

namespace Sys2Proof.Machine

/-! ### Bytes that stand in a buffer -/

section
variable {sp : Space} {s : State} {bs bs' : List Byte} {b : Byte}

theorem Holds.left (h : Holds sp (bs ++ bs') s) : Holds sp bs s := fun k b hk =>
  h k b (by rw [List.getElem?_append_left (List.getElem?_eq_some_iff.1 hk).1, hk])

theorem Holds.concat (h : Holds sp bs s) (hb : byteAt sp bs.length s = some b) : Holds sp (bs ++ [b]) s := by
  intro k c hk
  by_cases hlt : k < bs.length
  · rw [List.getElem?_append_left hlt] at hk
    exact h k c hk
  · have hle : k < bs.length + 1 := by simpa using (List.getElem?_eq_some_iff.1 hk).1
    obtain rfl : k = bs.length := by omega
    rw [List.getElem?_concat_length] at hk
    exact hb.trans hk

/-- Reading bytes that have all been written can only give those bytes (R56). -/
theorem ReadsAs.eq_of_holds (hr : ReadsAs sp 0 bs'.length s bs) (hh : Holds sp bs' s) : bs = bs' := by
  obtain ⟨hlen, hread⟩ := hr
  refine List.ext_getElem? fun k => ?_
  cases hk : bs'[k]? with
  | none => exact List.getElem?_eq_none (hlen ▸ List.getElem?_eq_none_iff.1 hk)
  | some b =>
    refine hread k b (List.getElem?_eq_some_iff.1 hk).1 ?_
    rw [Nat.zero_add]
    exact hh k b hk

end

/-! ### A complete frame -/

/-- `LRC_ACC` holds the sum of `covered` (R188). -/
def summed (covered : List Byte) (s : State) : State := { s with lrcAcc := sumBytes covered }

@[simp] theorem summed_status (covered : List Byte) (s : State) : (summed covered s).status = s.status := rfl

/-- What the reader makes of a complete frame: `LRC_ACC` holds the sum of the bytes before the last; if the last is
their LRC8 and the first the configured unit id, the frame is delivered, and else the reader resyncs (R185, R188 to
R190). -/
theorem ascCheck_frame {u : State} {uid fc last : Byte} {body : List Byte}
    (hh : Holds .ibuf (uid :: fc :: body ++ [last]) u) (hi : u.ilen.toNat = body.length + 3)
    (hfit : u.ilen.toNat ≤ u.params.bufSize) (hw : u.unitIdWritten = true) :
    ascCheck u = if last = lrc8Of (uid :: fc :: body) ∧ uid = u.cfg.unitId
      then complete { summed (uid :: fc :: body) u with
        res := { u.res with uid := uid, fc := fc, len := BitVec.ofNat 17 body.length } }
      else ascSeek (summed (uid :: fc :: body) u) := by
  have hd : u.ilen.toNat - 1 = (uid :: fc :: body).length := by simp [hi]
  have hlen : (summed (uid :: fc :: body) u).ilen - 3 = BitVec.ofNat 17 body.length := by
    change u.ilen - 3 = _
    bv_omega
  have hsum : ascSum u = summed (uid :: fc :: body) u := by
    have hb : fetchBytes .ibuf 0 (uid :: fc :: body).length u = (uid :: fc :: body, u) :=
      fetchBytes_of_written fun k b hk => by
        rw [Nat.zero_add]
        exact hh.left k b hk
    rw [ascSum, hd, hb, summed]
  have read (k : Nat) (b : Byte) (hk : (uid :: fc :: body ++ [last])[k]? = some b) :
      fetch .ibuf k (summed (uid :: fc :: body) u) = (b, summed (uid :: fc :: body) u) :=
    fetch_written _ _ _ _ (hh k b hk)
  have hlast := read (uid :: fc :: body).length last (by simp)
  have hacc : lrcOf (summed (uid :: fc :: body) u).lrcAcc = lrc8Of (uid :: fc :: body) := lrcOf_sumBytes _
  have hunit : readUnitId (summed (uid :: fc :: body) u) = (u.cfg.unitId, summed (uid :: fc :: body) u) :=
    readUnitId_written _ hw
  rw [ascCheck, if_neg (by omega), if_neg (Nat.not_lt.2 hfit), hsum, hd, hlast, ascVerify, hacc, ite_and,
    ascFilter, read 0 uid rfl, hunit, read 1 fc rfl, ascDeliver, hlen]
  rfl

/-- `LF` after `CR` completes the frame (R185). -/
theorem takeCharacter_lf {s : State} (h : s.seq = .aLf) : takeCharacter charLf s = ascCheck s :=
  takeCharacter_aLf h

/-- Settles O29: `LF` completes the frame, which is too short, fails its check, or is delivered. -/
theorem ascFrameCheck : Obligations.AscFrameCheck := by
  intro s bs hq hlen hfit hh hw
  have hrun : exec .ascLf s = ascCheck s := takeCharacter_lf hq
  simp only [Runs, hrun]
  refine ⟨fun hshort => ?_, ?_⟩
  · rw [ascCheck, if_pos (hlen ▸ hshort)]
    exact ascSeek_resyncs s
  · rintro _ last uid fc body rfl rfl
    rw [ascCheck_frame hh (by simpa using hlen.symm) hfit hw]
    refine ⟨fun hbad => ?_, fun hlrc huid => ?_⟩
    · rw [if_neg (fun h => hbad.elim (· h.1) (· h.2))]
      exact ⟨_, rfl, ⟨rfl, rfl, rfl, rfl⟩, rfl, sumBytes_toNat _, ⟨rfl, rfl⟩, sameHostSide_refl s, fun _ => rfl,
        fun _ => rfl, rfl, rfl, ⟨rfl, rfl⟩, rfl, ⟨rfl, rfl⟩⟩
    · rw [if_pos ⟨hlrc, huid⟩]
      exact ⟨_, rfl, endsWith_ended 0 0 s, rfl, sumBytes_toNat _, ⟨rfl, rfl⟩, sameRest_refl s⟩

/-! ### What has been read of a frame -/

/-- The bytes of an ASCII frame: unit id, function code, body and the LRC8 of them all (R180, R181). -/
def ascFrame (uid fc : Byte) (body : List Byte) : List Byte := uid :: fc :: body ++ [lrc8Of (uid :: fc :: body)]

@[simp] theorem ascFrame_length (uid fc : Byte) (body : List Byte) :
    (ascFrame uid fc body).length = body.length + 3 := by
  simp [ascFrame]

theorem hexText_cons (b : Byte) (bs : List Byte) : hexText (b :: bs) = hexEncHi b :: hexEncLo b :: hexText bs := rfl

/-- A frame on the line with what follows it, character by character (R90). -/
theorem ascText_append (bs tail : List Byte) :
    ascText bs ++ tail = charStart :: (hexText bs ++ charCr :: charLf :: tail) := by
  simp [ascText, charStart, charCr, charLf]

section
variable {s u : State} {bs ys rest tail body : List Byte} {b c uid fc : Byte}

theorem HasRead.popped (h : HasRead s bs (c :: rest) u) : HasRead s bs rest (popped rest u) := { h with rx := rfl }

/-- A byte decoded from the characters taken has been read once it is appended (R185). -/
theorem HasRead.append (h : HasRead s bs rest u) (hroom : bs.length < s.params.bufSize)
    (hsz : s.params.bufSize < 2 ^ 17) (b : Byte) : HasRead s (bs ++ [b]) rest (Machine.received b rest u) :=
  HasRead.received (u := { u with rx := b :: rest }) { h with rx := rfl } hroom hsz

/-- A complete frame for the configured unit with the right LRC8 is delivered (R185, R188 to R190). -/
theorem HasRead.ascDelivers (hsz : s.params.bufSize < 2 ^ 17) (hw : s.unitIdWritten = true)
    (h : HasRead s (ascFrame uid fc body) tail u) (huid : s.cfg.unitId = uid)
    (hfit : body.length + 3 ≤ s.params.bufSize) :
    Answers (ascCheck u) fun t =>
      EndsWith 0 0 s t ∧ t.rx = tail ∧ t.ilen = BitVec.ofNat 17 (body.length + 3) ∧
      t.res = { s.res with uid := uid, fc := fc, len := BitVec.ofNat 17 body.length } ∧
      Holds .ibuf (uid :: fc :: body) t := by
  have hilen : u.ilen.toNat = body.length + 3 := by simpa using h.ilen
  rw [ascCheck_frame h.holds hilen (by rw [hilen, h.params]; exact hfit) (h.written.trans hw),
    if_pos ⟨rfl, by rw [h.cfg, huid]⟩]
  refine ⟨_, rfl, ?_, h.rx, ?_, ?_, h.holds.left⟩
  · simp [EndsWith, h.status]
  · apply BitVec.eq_of_toNat_eq
    rw [BitVec.toNat_ofNat, Nat.mod_eq_of_lt (hfit.trans_lt hsz)]
    exact hilen
  · rw [← h.res]
    rfl

variable (h0 : s.cfg.overallTimeout = 0)
include h0

/-- A turn of the reader takes the character at the head of RX: no overall bound stops it (R186). -/
theorem HasRead.turn_character {high : Byte} (h : HasRead s bs (c :: rest) u)
    (hq : u.seq = .aSeek ∨ u.seq = .aHi ∨ u.seq = .aLo high ∨ u.seq = .aLf) :
    turn u = takeCharacter c (Machine.popped rest u) := by
  rw [turn_frameReader hq, readTurnA_before (deadlinePassed_eq_false (.inl (h.cfg ▸ h0))), readTurn_cons h.rx,
    character_eq]

/-- The two turns that take the characters of a byte append the byte (R185). -/
theorem HasRead.turns_pair (hsz : s.params.bufSize < 2 ^ 17) (h : HasRead s bs (hexEncHi b :: hexEncLo b :: rest) u)
    (hq : u.seq = .aHi) (hroom : bs.length < s.params.bufSize) (n : Nat) :
    ∃ v, turns (n + 2) u = turns n v ∧ v.seq = .aHi ∧ HasRead s (bs ++ [b]) rest v := by
  obtain ⟨hhi, hlo⟩ := isHex_hexEnc b
  have h1 := h.popped.beginRead (.aLo (hexEncHi b))
  have h2 := h1.popped
  have ht1 : turn u = .next (Machine.beginRead (.aLo (hexEncHi b)) (Machine.popped (hexEncLo b :: rest) u)) := by
    rw [h.turn_character h0 (high := 0) (.inr (.inl hq)), takeCharacter_aHi ((popped_seq _ u).trans hq),
      ascHigh_hex hhi]
  have ht2 := h1.turn_character h0 (.inr (.inr (.inl rfl)))
  have hroom2 := h2.room hroom
  rw [takeCharacter_aLo rfl, ascLow_hex hlo, hexDecPair_hexEnc, ascByte, if_neg hroom2.ne, if_pos hroom2] at ht2
  exact ⟨_, (turns_succ (n + 1) ht1).trans (turns_succ n ht2), rfl, (h2.append hroom hsz b).beginRead .aHi⟩

/-- The two turns that take the end token lead to the check of the frame (R185). -/
theorem HasRead.turns_end (h : HasRead s bs (charCr :: charLf :: rest) u) (hq : u.seq = .aHi) :
    ∃ w, turns 2 u = ascCheck w ∧ HasRead s bs rest w := by
  have h1 := h.popped.beginRead .aLf
  have ht1 : turn u = .next (Machine.beginRead .aLf (Machine.popped (charLf :: rest) u)) := by
    rw [h.turn_character h0 (high := 0) (.inr (.inl hq)), takeCharacter_aHi ((popped_seq _ u).trans hq)]
    rfl
  have ht2 := h1.turn_character h0 (high := 0) (.inr (.inr (.inr rfl)))
  exact ⟨_, (turns_succ 1 ht1).trans ((turns_one _).trans (ht2.trans (takeCharacter_lf rfl))), h1.popped⟩

/-- After the start token, the turns read the bytes that remain and the end token, after which the frame is checked
(R185). -/
theorem HasRead.turns_bytes (hsz : s.params.bufSize < 2 ^ 17)
    (h : HasRead s bs (hexText ys ++ charCr :: charLf :: tail) u) (hq : u.seq = .aHi)
    (hfit : bs.length + ys.length ≤ s.params.bufSize) :
    ∃ w, turns (2 * ys.length + 2) u = ascCheck w ∧ HasRead s (bs ++ ys) tail w := by
  induction ys generalizing bs u with
  | nil => simpa using h.turns_end h0 hq
  | cons y ys ih =>
    rw [List.length_cons] at hfit
    rw [hexText_cons, List.cons_append, List.cons_append] at h
    obtain ⟨v, hv, hvq, hread⟩ := h.turns_pair h0 hsz hq (by omega) (2 * ys.length + 2)
    obtain ⟨w, hw, hread'⟩ := ih hread hvq (by rw [List.length_append, List.length_singleton]; omega)
    exact ⟨w, hv.trans hw, by simpa using hread'⟩

/-- The turns that read a frame of `ys` on the line, from the state in which the reader begins, lead to its check
(R90, R185). -/
theorem HasRead.turns_frame (hsz : s.params.bufSize < 2 ^ 17) (h : HasRead s [] (ascText ys ++ tail) u)
    (hq : u.seq = .aSeek) (hfit : ys.length ≤ s.params.bufSize) :
    ∃ w, turns (2 * ys.length + 3) u = ascCheck w ∧ HasRead s ys tail w := by
  rw [ascText_append] at h
  have ht := h.turn_character h0 (high := 0) (.inl hq)
  rw [takeCharacter_start (high := 0) (.inl ((popped_seq _ u).trans hq))] at ht
  have hstart : HasRead s [] (hexText ys ++ charCr :: charLf :: tail) (Machine.beginRead .aHi
      { Machine.popped (hexText ys ++ charCr :: charLf :: tail) u with ilen := 0 }) :=
    { h with holds := (fun _ _ hk => nomatch hk), ilen := rfl, rx := rfl }
  obtain ⟨w, hw, hread⟩ := hstart.turns_bytes h0 hsz rfl (by simpa using hfit)
  exact ⟨w, (turns_succ _ ht).trans hw, hread⟩

end

/-! ### What ASC_WRITE_FRAME pushes -/

/-- With a written body that fits, `ASC_WRITE_FRAME` pushes unit id, function code, body and their LRC8 as one frame
(R180, R181). -/
theorem ascWriteFrame_pushes {s : State} {body : List Byte} (hlen : s.op.len.toNat = body.length)
    (hfit : body.length + 3 ≤ s.params.bufSize)
    (hbody : ∀ k b, body[k]? = some b → byteAt .obuf (2 + k) s = some b) :
    Runs .ascWriteFrame s fun t => t.tx = s.tx ++ ascText (ascFrame s.op.uid s.op.fc body) := by
  obtain ⟨t, ht, covered, sent, hcovered, hsent, -, hbuf, -, htx, -⟩ :=
    (ascWriteFrameBuildsFrame.2 s).2 (hlen ▸ hfit)
  rw [hlen] at hcovered hsent hbuf
  have hframe : Holds .obuf (s.op.uid :: s.op.fc :: body) t := by
    intro k b hk
    match k, hk with
    | 0, hk => exact (hbuf 0).trans hk
    | 1, hk => exact (hbuf 1).trans hk
    | k + 2, hk =>
      rw [List.getElem?_cons_succ, List.getElem?_cons_succ] at hk
      have hlt := (List.getElem?_eq_some_iff.1 hk).1
      rw [hbuf, if_neg (by omega), if_neg (by omega), if_neg (by omega), Nat.add_comm]
      exact hbody k b hk
  obtain rfl : covered = s.op.uid :: s.op.fc :: body := ReadsAs.eq_of_holds hcovered hframe
  have hlrc : byteAt .obuf (body.length + 2) t = some (lrc8Of (s.op.uid :: s.op.fc :: body)) := by
    rw [hbuf, if_neg (by omega), if_neg (by omega), if_pos rfl]
  have hs : sent = ascFrame s.op.uid s.op.fc body :=
    ReadsAs.eq_of_holds (by simpa using hsent) (hframe.concat hlrc)
  exact ⟨t, ht, hs ▸ htx⟩

/-- Settles O23: the frame pushed is that of the body, which the reader takes character by character to its end, where
it is checked and delivered. -/
theorem ascFrameRoundTrip : Obligations.AscFrameRoundTrip := by
  intro s r body tail hlen hfit hsz htx _ hbody hsize huid hw h0
  obtain ⟨t, ht, hpush⟩ := ascWriteFrame_pushes hlen hfit hbody
  rw [htx, List.nil_append] at hpush
  refine ⟨t, ht, fun hrx => ⟨_, rfl, ?_⟩⟩
  rw [← hsize] at hfit hsz
  have hstart : HasRead r [] _ (beginRead .aSeek { r with ilen := 0 }) :=
    ⟨(fun _ _ hk => nomatch hk), rfl, hrx.trans (by rw [hpush]), rfl, rfl, rfl, rfl, rfl⟩
  obtain ⟨w, hturns, hread⟩ := hstart.turns_frame h0 hsz rfl (by simpa using hfit)
  have hcount : 2 * body.length + 9 = 2 * (ascFrame s.op.uid s.op.fc body).length + 3 := by
    rw [ascFrame_length, Nat.mul_add]
  obtain ⟨v, hv, hend, hrest, hilen, hres, hholds⟩ := hread.ascDelivers hsz hw huid hfit
  refine ⟨v, (hcount ▸ hturns).trans hv, hend, hrest, hilen, hres, fun k b hk => ?_⟩
  rw [Nat.add_comm]
  exact hholds (k + 2) b hk

end Sys2Proof.Machine

/-! ## Control by the host

`NOP`, and the idle write that clears the sticky bits. -/

namespace Sys2Proof.Machine

/-- Settles O38: the operation is the completion entry alone. -/
theorem nopIsDone : Obligations.NopIsDone :=
  ⟨rfl, fun s => ⟨_, rfl, endsWith_ended 0 0 s, sameSums_refl s, rfl, sameRest_refl s⟩⟩

/-- An idle write of a register of the map other than `CMD` (R40, R42, R234). -/
theorem hostWrite_idle {n : Nat} {r : Reg} {s : State} (v : Word) (hn : regAt n = some r) (hr : n ≠ cmdNumber)
    (hb : statusBusy s.status = false) : hostWrite n v s = .next (writeRegister r v s) := by
  simp [hostWrite, hostWriteRegister, hr, hn, hb]

/-- Settles O43: the step is the write of `STATUS`, which clears the sticky bits by the low byte of the value. -/
theorem statusWriteClearsSticky : Obligations.StatusWriteClearsSticky := by
  intro s v rest hm hb
  have hst : step s = .next { s with status := statusClear (v.setWidth 8) s.status, moves := rest } := by
    rw [step_cons hm]
    exact hostWrite_idle (n := 0x30) (r := .status) (s := { s with moves := rest }) v rfl (by decide) hb
  have hecho : statusEchoShort (v.setWidth 8) = v.getLsbD 2 := by simp [statusEchoShort]
  have hviol : statusHostViol (v.setWidth 8) = v.getLsbD 3 := by simp [statusHostViol]
  exact ⟨_, hst, by simp [hecho], by simp [hviol], statusErr_clear .., by simp, by simp [hb], rfl⟩

end Sys2Proof.Machine

/-! ## What a failing turn leaves of the results

An operation ends by the completion entry, which reports no error, or by the error entry, which leaves the result
registers alone; and no turn writes a result register on the way to the error entry. -/

namespace Sys2Proof.Machine

/-- If the result is the end of an operation with an error, the result registers hold `r` (R274). -/
def FailsKeeping (r : ResRegs) : Result → Prop
  | .next t               => t.seq = .idle → statusErr t.status ≠ 0 → t.res = r
  | .fault _ | .refused _ => True

section
variable {r : ResRegs}

theorem failsKeeping_ite {c : Prop} [Decidable c] {a b : Result} (ha : FailsKeeping r a) (hb : FailsKeeping r b) :
    FailsKeeping r (if c then a else b) := by
  split
  · exact ha
  · exact hb

/-- An operation that waits has not ended. -/
theorem failsKeeping_waits {t : State} (hq : t.seq ≠ .idle) : FailsKeeping r (.next t) := fun h => absurd h hq

/-- The completion entry reports no error (R271). -/
theorem failsKeeping_complete {u : State} : FailsKeeping r (complete u) := fun _ h => absurd (statusErr_ended ..) h

/-- The error entry writes no result register (R270). -/
theorem failsKeeping_raise {e : Err} {info : Half} {u : State} : FailsKeeping u.res (raise e info u) := fun _ _ => rfl

/-! ### The token reader -/

theorem failsKeeping_badHex (c : Byte) (u : State) : FailsKeeping u.res (badHex c u) := failsKeeping_raise

theorem failsKeeping_tokenFirst (c : Byte) (u : State) : FailsKeeping u.res (tokenFirst c u) :=
  failsKeeping_ite failsKeeping_complete (failsKeeping_ite (failsKeeping_waits nofun)
    (failsKeeping_ite (failsKeeping_waits nofun) (failsKeeping_badHex c u)))

theorem failsKeeping_tokenSecond (first c : Byte) (u : State) : FailsKeeping u.res (tokenSecond first c u) :=
  failsKeeping_ite (failsKeeping_ite failsKeeping_complete (failsKeeping_badHex c u))
    (failsKeeping_ite failsKeeping_complete (failsKeeping_badHex c u))

/-! ### The ASCII frame reader, which fails on no character (R273) -/

theorem failsKeeping_ascSeek (u : State) : FailsKeeping r (ascSeek u) := failsKeeping_waits nofun

theorem failsKeeping_ascAccum (u : State) : FailsKeeping r (ascAccum u) := failsKeeping_waits nofun

theorem failsKeeping_ascByte (b : Byte) (u : State) : FailsKeeping r (ascByte b u) :=
  failsKeeping_ite (failsKeeping_ascSeek u) (failsKeeping_ite (failsKeeping_waits nofun) trivial)

theorem failsKeeping_ascFilter (u : State) : FailsKeeping r (ascFilter u) :=
  failsKeeping_ite failsKeeping_complete (failsKeeping_ascSeek _)

theorem failsKeeping_ascCheck (u : State) : FailsKeeping r (ascCheck u) :=
  failsKeeping_ite (failsKeeping_ascSeek u) (failsKeeping_ite trivial
    (failsKeeping_ite (failsKeeping_ascFilter _) (failsKeeping_ascSeek _)))

theorem failsKeeping_ascHigh (c : Byte) (u : State) : FailsKeeping r (ascHigh c u) :=
  failsKeeping_ite (failsKeeping_ascAccum u) (failsKeeping_ite (failsKeeping_waits nofun)
    (failsKeeping_ite (failsKeeping_waits nofun) (failsKeeping_ascSeek u)))

theorem failsKeeping_ascLow (high c : Byte) (u : State) : FailsKeeping r (ascLow high c u) :=
  failsKeeping_ite (failsKeeping_ascAccum u)
    (failsKeeping_ite (failsKeeping_ascByte _ u) (failsKeeping_ascSeek u))

theorem failsKeeping_ascEnd (c : Byte) (u : State) : FailsKeeping r (ascEnd c u) :=
  failsKeeping_ite (failsKeeping_ascAccum u) (failsKeeping_ite (failsKeeping_ascCheck u) (failsKeeping_ascSeek u))

/-- A character that has been taken (R92, R158, R185). -/
theorem failsKeeping_character (c : Byte) (u : State) : FailsKeeping u.res (character c u) := by
  rw [character_eq]
  unfold takeCharacter
  cases u.seq with
  | xTok1 => exact failsKeeping_tokenFirst c u
  | xTok2 first => exact failsKeeping_tokenSecond first c u
  | aSeek => exact failsKeeping_ite (failsKeeping_ascAccum u) (failsKeeping_ascSeek u)
  | aHi => exact failsKeeping_ascHigh c u
  | aLo high => exact failsKeeping_ascLow high c u
  | aLf => exact failsKeeping_ascEnd c u
  | _ => trivial

/-! ### The RTU frame reader -/

/-- A byte that is appended leaves the result registers alone (R210). -/
theorem failsKeeping_append (b : Byte) {k : State → Result} {u : State} (hk : ∀ v, FailsKeeping v.res (k v)) :
    FailsKeeping u.res (append b k u) := failsKeeping_ite (hk _) trivial

theorem failsKeeping_rtuLength (rem : Nat) (u : State) : FailsKeeping u.res (rtuLength rem u) :=
  failsKeeping_ite (failsKeeping_waits nofun) failsKeeping_raise

theorem failsKeeping_rtuClass (f : Byte) (u : State) : FailsKeeping u.res (rtuClass f u) := by
  unfold rtuClass
  cases lenClass f u with
  | unknown => exact failsKeeping_raise
  | count8 | count16 => exact failsKeeping_waits nofun
  | fixed6 | fixed3 | fixed8 => exact failsKeeping_rtuLength _ u

/-- A function code that has been taken (R110). -/
theorem failsKeeping_functionCode (f : Byte) (u : State) : FailsKeeping u.res (functionCode f u) := by
  rw [functionCode_eq]
  exact failsKeeping_ite (failsKeeping_append f (failsKeeping_rtuClass f)) trivial

theorem failsKeeping_rtuCount (wide : Bool) (c : Byte) (u : State) : FailsKeeping u.res (rtuCount wide c u) :=
  failsKeeping_append c fun v => failsKeeping_ite (failsKeeping_waits nofun) (failsKeeping_rtuLength _ v)

theorem failsKeeping_rtuVerify (low high : Byte) (d : Nat) (u : State) :
    FailsKeeping u.res (rtuVerify low high d u) :=
  failsKeeping_ite (failsKeeping_ite failsKeeping_complete (failsKeeping_waits nofun)) failsKeeping_raise

/-- The CRC is formed and read without a result register being written (R210). -/
theorem failsKeeping_rtuCheck (u : State) : FailsKeeping u.res (rtuCheck u) := by
  simpa [rtuCheck, rtuSum] using failsKeeping_rtuVerify _ _ _ (fetch .ibuf _ (fetch .ibuf _ (rtuSum _ u)).2).2

theorem failsKeeping_rtuBodyByte (more : Nat) (b : Byte) (u : State) : FailsKeeping u.res (rtuBodyByte more b u) :=
  failsKeeping_append b fun v => by
    cases more with
    | zero => exact failsKeeping_rtuCheck v
    | succ n => exact failsKeeping_waits nofun

/-! ### The sequencer's turn -/

/-- A read fails by its bound, or by the byte it has taken (R154). -/
theorem failsKeeping_readTurn {k : Byte → State → Result} {s : State} (hi : s.seq ≠ .idle)
    (hk : ∀ b u, FailsKeeping u.res (k b u)) : FailsKeeping s.res (readTurn k s) := by
  unfold readTurn
  split
  · exact hk _ (popped _ s)
  · exact failsKeeping_ite failsKeeping_raise (failsKeeping_waits hi)

theorem failsKeeping_readTurnA {s : State} (hi : s.seq ≠ .idle) : FailsKeeping s.res (readTurnA character s) :=
  failsKeeping_ite failsKeeping_raise (failsKeeping_readTurn hi failsKeeping_character)

theorem failsKeeping_flushTurn {wait : Nat → Seq} {k : Nat → State → Result} {n : Nat} {s : State}
    (hw : wait (n + 1) ≠ .idle) (hk : FailsKeeping r (k n s)) : FailsKeeping r (flushTurn wait k n s) :=
  failsKeeping_ite hk (failsKeeping_waits hw)

/-- The transmission of a frame begins an echo discard or is the end, and does not fail (R200). -/
theorem failsKeeping_rtuFlushed (n : Nat) (s : State) : FailsKeeping r (rtuFlushed n s) :=
  failsKeeping_ite (failsKeeping_waits nofun) failsKeeping_complete

theorem failsKeeping_echoFinish (got want : Nat) (s : State) : FailsKeeping r (echoFinish got want s) :=
  failsKeeping_ite failsKeeping_complete failsKeeping_complete

/-- A short echo sets a flag and is no error (R34, R160). -/
theorem failsKeeping_echoTurn {wait : Nat → Nat → Seq} {got want : Nat} {s : State} (hi : s.seq ≠ .idle)
    (hw : wait (got + 1) want ≠ .idle) : FailsKeeping r (echoTurn wait got want s) := by
  refine failsKeeping_ite (failsKeeping_echoFinish got want s) ?_
  split
  · exact failsKeeping_waits hw
  · exact failsKeeping_ite (failsKeeping_echoFinish got want s) (failsKeeping_waits hi)

/-- A turn of a running operation that fails leaves the result registers alone (R261, R274). -/
theorem failsKeeping_turn {s : State} (hi : s.seq ≠ .idle) : FailsKeeping s.res (turn s) := by
  unfold turn
  cases h : s.seq with
  | idle => exact absurd h hi
  | exec => trivial
  | xRead => exact failsKeeping_readTurn hi fun _ _ => failsKeeping_complete
  | xTok1 | xTok2 => exact failsKeeping_readTurn hi failsKeeping_character
  | aSeek | aHi | aLo | aLf => exact failsKeeping_readTurnA hi
  | rUid => exact failsKeeping_readTurn hi fun b _ => failsKeeping_append b fun _ => failsKeeping_waits nofun
  | rFc => exact failsKeeping_readTurn hi failsKeeping_functionCode
  | rCnt wide => exact failsKeeping_readTurn hi (failsKeeping_rtuCount wide)
  | rCnt2 high => exact failsKeeping_readTurn hi fun b _ => failsKeeping_append b (failsKeeping_rtuLength _)
  | rBody more => exact failsKeeping_readTurn hi (failsKeeping_rtuBodyByte more)
  | xFlush n => exact failsKeeping_flushTurn nofun failsKeeping_complete
  | wFlush n => exact failsKeeping_flushTurn nofun (failsKeeping_rtuFlushed n s)
  | xEcho | wEcho => exact failsKeeping_echoTurn hi nofun

end

/-- Settles O50: every end with an error is the error entry, and the results stand as they did when the turn began. -/
theorem failedReadsWriteNoResults : Obligations.FailedReadsWriteNoResults := by
  rintro s t err info ht ⟨herr, -, -, -, -, -, hq⟩ hne hi
  have hk := failsKeeping_turn hi
  rw [ht] at hk
  exact hk hq (herr ▸ hne)

end Sys2Proof.Machine
